-- ==== Sys2Proof/Word.lean ====
section
/-! DEFINITION. The words and index types of the MD416: bytes and halves as they cross a link, and the
ranges of the part's indices (ports, job slots, accounts, ...). -/

namespace Sys2Proof

/-- A byte of a frame, a record or spool memory. -/
abbrev Byte := BitVec 8

/-- A 16-bit field: a tag, a port set, a media set, an engine code, a frame check. -/
abbrev Half := BitVec 16

/-- A 32-bit field: the shop clock and the life counters. -/
abbrev Full := BitVec 32

/-- A press port, 0 to 15. -/
abbrev Port := Fin 16

/-- A job slot, 0 to 127 (R1). -/
abbrev JobSlot := Fin 128

/-- An account, 0 to 255 (R132). -/
abbrev Account := Fin 256

/-- A submitting station, 0 to 255 (R36). -/
abbrev Station := Fin 256

/-- A media class, 0 to 15 (R135). -/
abbrev Media := Fin 16

/-- A destination class, 0 to 63 (R60). -/
abbrev DestClass := Fin 64

/-- A pacing class, 0 to 3 (R98). -/
abbrev PacingClass := Fin 4

/-- A finisher unit, 0 to 3 (R122). -/
abbrev FinUnit := Fin 4

/-- A requester of the spool arbiter: 0 the intake writer, p + 1 the fetcher of port p (R108, R182). -/
abbrev Requester := Fin 17

/-- A spool block number, 0 to 65,535 (section 1.5). -/
abbrev Block := Nat

end Sys2Proof
end

