-- ==== Sys2Proof/Syntax.lean ====
section
/-! DEFINITION. The commands of the MD416: one constructor for each row of spec/opcode_table.json, with the
bytes that the command brings from outside. A step that takes the front frame of a buffer brings none: its
operands are that frame's bytes (R31, R32). -/

namespace Sys2Proof

/-- The six bytes of an identity result (12.5). -/
structure IdentityBytes where
  engineCode : Half
  capability : Byte
  media      : Half
  pathDepth  : Byte
  deriving DecidableEq, Repr

/-- The three bytes of a sense result (12.5). -/
structure SenseBytes where
  ready     : Byte
  resting   : Byte
  condition : Byte
  deriving DecidableEq, Repr

/-- The eight bytes of a RESULT record (12.5). -/
structure ResultBytes where
  cls            : Byte
  condition      : Byte
  good           : Half
  spoiled        : Half
  lastTagPresent : Byte
  lastTag        : Byte
  deriving DecidableEq, Repr

/-- A command of the block: a row of spec/opcode_table.json. -/
inductive Instr where
  -- the reset input and the job link
  | deviceReset (lineSignal : Bool)
  | linkUp
  | linkDown
  | frameArrives (bytes : List Byte)
  -- the intake unit takes the front frame
  | openFrame
  | dataFrame
  | markFrame
  | closeFrame
  | abandonFrame
  | stallTimerExpiry
  -- spool transfers, the transmitter and the clock
  | writeCompletes
  | fetchLands
  | frameTransmitted
  | shopClockTick
  -- the control unit executes the front frame: jobs
  | jobQuery
  | hold
  | release
  | cancel
  | move
  | priority
  | purge
  -- queues and routes
  | routeWrite
  | routeRead
  | queueRead
  | unboundRead
  -- ports and the spool arbiter
  | portTableWrite
  | portTableRead
  | portQuery
  | portOffline
  | portOnline
  | portProbe
  | portReset
  | pacingWrite
  | pacingRead
  | rankWrite
  | rankRead
  -- finishers
  | finisherLock
  | finisherUnlock
  | finisherRead
  -- accounts and rates
  | accountWrite
  | accountCredit
  | accountSetBalance
  | accountRead
  | rateWrite
  | rateRead
  -- alerts and notices
  | alertAck
  | alertRead
  | maskWrite
  | maskRead
  -- the part
  | stationWrite
  | stationRead
  | settingsWrite
  | settingsRead
  | setClock
  | status
  | clearStatus
  -- answers, results and reports of a printer
  | identityResult (p : Port) (r : IdentityBytes)
  | senseResult (p : Port) (r : SenseBytes)
  | taken (p : Port)
  | refuse (p : Port)
  | demand (p : Port)
  | feed (p : Port) (tag : Byte)
  | exit (p : Port) (tag disposition : Byte)
  | result (p : Port) (r : ResultBytes)
  | readyChange (p : Port) (ready condition : Byte)
  -- timers
  | answerTimerExpiry (p : Port)
  | endTimerExpiry (p : Port)
  | standbyTimerExpiry (p : Port)
  | warmTimerExpiry (p : Port)
  | warmLimitTimerExpiry (p : Port)
  | senseRetryTimerExpiry (p : Port)
  | faultPollTimerExpiry (p : Port)
  | absentProbeTimerExpiry (p : Port)
  | transitTimerExpiry (p : Port) (tag : Byte)
  | pacingGapTimerExpiry (p : Port)
  | repeatTimerExpiry (p : Port)
  | meterPeriodTimerExpiry
  -- a CONTROL frame with no known request code
  | unknownRequest
  deriving DecidableEq, Repr

end Sys2Proof
end

