-- ==== Sys2Proof/Decode.lean ====
section
/-! DEFINITION. The decoder of the opcode table's words. The MD416 has no instruction words: no row of
spec/opcode_table.json gives bits (every row's fields are empty), so no word spells a command. A command's operands are
read from frames and records by Machine/Operands.lean. -/

namespace Sys2Proof

/-- The command that a word of nbits bits spells by the table: none, for every word, since no row gives bits. -/
def decodeTableWord (_nbits _w : Nat) : Option Instr := none

end Sys2Proof
end

