-- ==== Sys2Proof/Config.lean ====
section
/-! DEFINITION. What one implementation fixes and the spec leaves open: free values, each an opaque constant that
nothing can evaluate, applied to the counter `freeTick` of State so that every use may differ. And the fixed
times of the spec, in milliseconds. -/

namespace Sys2Proof.Config

/-- Which of several candidates acts first, where the spec lets either be taken first (R108, R124; log 6, log 7).
It is read modulo the number of candidates, and not at all when there is one. -/
opaque pick : Nat → Nat

/-- Whether a port that has just fed a sheet makes another feed attempt at the same event: it "may feed the next
sheet at once" (R103; log 8). -/
opaque feedsAgain : Nat → Bool

/-- A byte that an absent optional field occupies, or a sheet number too large for its two bytes, by its place in the frame
(12.4; logs 9 and 37). -/
opaque absentByte : Nat → Nat → Byte

/-- The answer window of a press link command, 250 ms (R80). -/
def answerWindow : Nat := 250

/-- The end window of a run, 30 s (R84). -/
def endWindow : Nat := 30000

/-- The sense retry interval, 1 s (R90). -/
def senseRetry : Nat := 1000

/-- A time in seconds as milliseconds. -/
def seconds (n : Nat) : Nat := n * 1000

/-- A time in minutes as milliseconds. -/
def minutes (n : Nat) : Nat := n * 60000

end Sys2Proof.Config
end

