-- ==== Sys2Proof/Machine/State.lean ====
section
/-! DEFINITION. The state of the MD416 as plain data, one structure for each block that owns state (00, Block
overview), and the state right after a device reset. -/

namespace Sys2Proof.Machine

/-! ## Enumerations -/

/-- The job link's state (R25). -/
inductive LinkState where
  | down | up
  deriving DecidableEq, Repr

/-- What FLOW tells the job server (section 2.4). -/
inductive Flow where
  | hold | go
  deriving DecidableEq, Repr

/-- The six inbound frame kinds (section 2.2). -/
inductive FrameKind where
  | openK | dataK | markK | closeK | abandonK | controlK
  deriving DecidableEq, Repr

/-- The three outbound frame kinds (section 2.2). -/
inductive OutKind where
  | replyK | noticeK | flowK
  deriving DecidableEq, Repr

/-- A job's finishing kind: NONE, STAPLE, FOLD, BIND (section 1.2). -/
inductive Finishing where
  | noFinish | staple | fold | bind
  deriving DecidableEq, Repr

/-- A side mode of a sheet: NONE, MONO, COLOR (R15). -/
inductive SideMode where
  | blank | mono | color
  deriving DecidableEq, Repr

/-- Why a job broke (section 3.7). -/
inductive BrokenReason where
  | gap | undeclared | spoolFull | linkDown
  deriving DecidableEq, Repr

/-- A job's intake phase (R4). -/
inductive IntakePhase where
  | receiving | complete | broken (r : BrokenReason)
  deriving DecidableEq, Repr

/-- A job's print phase (R5). -/
inductive PrintPhase where
  | unbound | queued | claimed | finished
  deriving DecidableEq, Repr

/-- Why a job was cancelled (R6). -/
inductive CancelReason where
  | station | management | purge | broken
  deriving DecidableEq, Repr

/-- How a job ended (R8). -/
inductive JobOutcome where
  | done | cancelled | broken
  deriving DecidableEq, Repr

/-- A position in feed order: a copy and a sheet, or the end position (R17). -/
inductive Pos where
  | at (copy sheet : Nat)
  | endPos
  deriving DecidableEq, Repr

/-- The nine port states (R76). -/
inductive PortState where
  | absent | probing | offline | standby | waking | ready | running | ending | faulted
  deriving DecidableEq, Repr

/-- A printer's rest mode (R77). -/
inductive RestMode where
  | light | deep
  deriving DecidableEq, Repr

/-- The five press link commands (section 5.2). -/
inductive Command where
  | probe | sense | warm | rest | run
  deriving DecidableEq, Repr

/-- The condition of a RESULT, a sense result or a READY-CHANGE (R84). -/
inductive Condition where
  | noCondition | jamFeed | jamPath | jamExit | mediaOut | coverOpen | underrun | halted | finisherFault
  | engineFault
  deriving DecidableEq, Repr

/-- The class of a RESULT (R84). -/
inductive ResultClass where
  | complete | failed | refused | interrupted
  deriving DecidableEq, Repr

/-- How a sheet left the paper path (R83). -/
inductive Disposition where
  | good | spoiled
  deriving DecidableEq, Repr

/-- The states of an alert record (R151). -/
inductive AlertState where
  | idle | activeUnacked | activeAcked | clearedUnacked
  deriving DecidableEq, Repr

/-- The alert kinds (R151). -/
inductive AlertKind where
  | jam | transit | mediaOut | coverOpen | finisherFault | engineFault | noAnswer | warmFail | countMismatch
  deriving DecidableEq, Repr

/-- Where a jam is (R151). -/
inductive JamLocation where
  | feed | path | exit
  deriving DecidableEq, Repr

/-! ## The link unit -/

/-- An inbound frame that passed the frame check, as it waits in a buffer (R181). -/
structure Frame where
  kind    : FrameKind
  station : Station
  tag     : Half
  seq     : Byte
  request : Byte
  payload : List Byte
  deriving DecidableEq, Repr

/-- A reply in the reply queue: its addressee and its payload (section 2.7, 12.4). -/
structure Reply where
  station : Station
  tag     : Half
  request : Byte
  payload : List Byte
  deriving DecidableEq, Repr

/-- A frame in the transmitter (R181). -/
structure OutFrame where
  kind    : OutKind
  station : Station
  tag     : Half
  request : Byte
  payload : List Byte
  deriving DecidableEq, Repr

/-- The five intake flags (R35). -/
structure IntakeFlags where
  frameCheck     : Bool := false
  overrun        : Bool := false
  controlOverrun : Bool := false
  unknownJob     : Bool := false
  notPermitted   : Bool := false
  deriving DecidableEq, Repr

/-- The state of the link unit. -/
structure LinkUnit where
  state      : LinkState
  intakeBuf  : List Frame
  controlBuf : List Frame
  replies    : List Reply
  target     : Flow
  lastFlow   : Option Flow
  flags      : IntakeFlags
  tx         : Option OutFrame
  deriving DecidableEq, Repr

/-! ## The intake unit -/

/-- A held intake slot (R42). -/
structure IntakeSlot where
  job         : JobSlot
  openSheet   : Option Block
  sheetBlocks : Nat
  tailOffset  : Nat
  deriving DecidableEq, Repr

/-- An entry of the write list (R43); `void` is the mark of R14. -/
inductive WriteEntry where
  | write (job : JobSlot) (block offset : Nat) (bytes : List Byte) (void : Bool)
  | mark (job : JobSlot) (first : Block) (side1 side2 : SideMode) (media : Media)
  deriving DecidableEq, Repr

/-- The state of the intake unit. -/
structure IntakeUnit where
  slots      : Vector (Option IntakeSlot) 8
  writeList  : List WriteEntry
  stalled    : Option JobSlot
  stallTimer : Option Nat
  deriving DecidableEq, Repr

/-! ## The spool manager -/

/-- A sheet-start record (R15). -/
structure SheetStart where
  number : Nat
  side1  : SideMode
  side2  : SideMode
  media  : Media
  count  : Nat
  deriving DecidableEq, Repr

/-- A block's link record (R11); the defaults are its values after a device reset. -/
structure LinkRec where
  next  : Option Block := none
  fill  : Nat := 0
  sheet : Option SheetStart := none
  deriving DecidableEq, Repr

/-- The granted spool transfer (R108): the intake writer's write, or a port's fetch of a block. -/
inductive Grant where
  | write
  | fetch (p : Port) (b : Block)
  deriving DecidableEq, Repr

/-- The state of the spool manager. `links` lists the link records that differ from the reset record and `mem` the
bytes that are not 0, each in rising order of its key. -/
structure Spool where
  pool    : List Block
  links   : List (Nat × LinkRec)
  mem     : List Host.Cell
  granted : Option Grant
  ranks   : Vector Nat 17
  deriving DecidableEq, Repr

/-! ## The job table -/

/-- What a job declares it needs of its port (section 1.2). -/
structure Needs where
  colour : Bool
  duplex : Bool
  media  : Half
  deriving DecidableEq, Repr

/-- The feed cursor: its position and its next block (R17). -/
structure Cursor where
  pos  : Pos
  next : Option Block
  deriving DecidableEq, Repr

/-- A job record (section 1.2). -/
structure Job where
  station       : Station
  tag           : Half
  account       : Account
  dest          : DestClass
  priority      : Fin 4
  copies        : Nat
  finishing     : Finishing
  needs         : Needs
  intake        : IntakePhase
  expected      : Option Byte
  received      : Nat
  head          : Option Block
  tail          : Option Block
  phase         : PrintPhase
  boundPort     : Option Port
  lastPort      : Option Port
  held          : Bool
  creditStopped : Bool
  cancel        : Option CancelReason
  feed          : Cursor
  confirm       : Pos
  copiesDone    : Nat
  delivered     : Nat
  charged       : Nat
  releaseBehind : Bool
  outcome       : Option JobOutcome
  deriving DecidableEq, Repr

/-- The job table: a slot that holds `none` is free, a record without an outcome is live, a record with one has
ended (section 1.1). -/
structure JobTable where
  recs  : Vector (Option Job) 128
  ended : List JobSlot
  deriving DecidableEq, Repr

/-! ## The binder -/

/-- The state of the binder (chapter 4). A port set has bit p set when it names port p. -/
structure Binder where
  routes    : Vector Half 64
  unbound   : List JobSlot
  queues    : Vector (List JobSlot) 16
  bindOrder : List JobSlot
  claims    : Vector (Option JobSlot) 16
  deriving DecidableEq, Repr

/-! ## The port controllers -/

/-- A printer's identity record (R81). -/
structure Identity where
  engineCode : Half
  colour     : Bool
  duplex     : Bool
  media      : Half
  pathDepth  : Nat
  connector  : Bool
  deriving DecidableEq, Repr

/-- An entry of the in-flight list (R106); `transit` is its transit timer, running with its load. -/
structure InFlight where
  tag          : Byte
  job          : JobSlot
  copy         : Nat
  sheet        : Nat
  first        : Block
  sent         : Nat
  cost         : Nat
  costReserved : Bool
  picked       : Bool
  transit      : Option Nat
  disposition  : Option Disposition
  deriving DecidableEq, Repr

/-- A block in a port buffer: `owner` is the tag of the in-flight entry it belongs to, or for a prefetched block
the tag that its sheet will be fed with (R107, R110). -/
structure HeldBlock where
  block : Block
  owner : Byte
  bytes : List Byte
  deriving DecidableEq, Repr

/-- A port's fetch request, waiting or granted (R99); `discard` says that its landing is discarded (R110). -/
structure FetchReq where
  block   : Block
  owner   : Byte
  granted : Bool
  discard : Bool
  deriving DecidableEq, Repr

/-- A port record (R76, R99) with the port's timers, each `none` when stopped and its load in milliseconds when
running. -/
structure PortRec where
  state          : PortState
  identity       : Option Identity
  restDepth      : Option RestMode
  offlinePending : Bool
  outstanding    : Option Command
  restSent       : RestMode
  runOpen        : Bool
  executing      : Bool
  tagCounter     : Byte
  sheetsFed      : Full
  sheetsGood     : Full
  sheetsSpoiled  : Full
  underruns      : Half
  strays         : Half
  buffer         : List HeldBlock
  inFlight       : List InFlight
  pendingDemand  : Bool
  goodExits      : Nat
  endSent        : Bool
  haltSent       : Bool
  fetch          : Option FetchReq
  warmInterval   : Nat
  gapTimer       : Option Nat
  answerTimer    : Option Nat
  endTimer       : Option Nat
  standbyTimer   : Option Nat
  warmTimer      : Option Nat
  warmLimitTimer : Option Nat
  senseRetryTimer : Option Nat
  faultPollTimer : Option Nat
  absentProbeTimer : Option Nat
  deriving DecidableEq, Repr

/-- An entry of the port table (R77). -/
structure PortEntry where
  enabled      : Bool
  pacing       : PacingClass
  finisher     : Option FinUnit
  standbyDelay : Nat
  restMode     : RestMode
  lightWarm    : Nat
  deepWarm     : Nat
  deriving DecidableEq, Repr

/-- The SHEET header of a fed sheet (12.5). -/
structure SheetHeader where
  tag       : Byte
  media     : Media
  side1     : SideMode
  side2     : SideMode
  finishing : Finishing
  setEnd    : Bool
  count     : Nat
  deriving DecidableEq, Repr

/-- A message the part sends down a press link (12.5). -/
inductive PressMsg where
  | probe | sense | warm | run
  | rest (m : RestMode)
  | sheet (h : SheetHeader)
  | block (bytes : List Byte)
  | endRun
  | halt
  deriving DecidableEq, Repr

/-! ## Finishers, meter, alerts, notices, control -/

/-- The holder of a finisher lock (R123). -/
inductive Holder where
  | free
  | management
  | job (j : JobSlot) (p : Port)
  deriving DecidableEq, Repr

/-- An account record (R132). -/
structure AccountRec where
  isOpen        : Bool
  unlimited     : Bool
  scale         : Nat
  balance       : Nat
  reserved      : Nat
  inFlight      : Nat
  lowThreshold  : Nat
  lowArmed      : Bool
  chargedTotal  : Nat
  periodSheets  : Nat
  periodUnits   : Nat
  deriving DecidableEq, Repr

/-- An entry of the rate table (R135). -/
structure Rate where
  mono   : Nat
  colour : Nat
  deriving DecidableEq, Repr

/-- The state of the meter. -/
structure Meter where
  accounts    : Vector AccountRec 256
  rates       : Vector Rate 16
  periodTimer : Option Nat
  deriving DecidableEq, Repr

/-- An alert record (R151). -/
structure AlertRec where
  state       : AlertState
  kind        : Option AlertKind
  location    : Option JamLocation
  job         : Option (Station × Half)
  position    : Option (Nat × Nat)
  occurrences : Nat
  raised      : Full
  due         : Bool
  repeatTimer : Option Nat
  deriving DecidableEq, Repr

/-- The notice mask (R170). -/
structure NoticeMask where
  alert   : Bool
  jobEnd  : Bool
  account : Bool
  meter   : Bool
  deriving DecidableEq, Repr

/-- An account's entry of the account event set; both flags clear stands for no entry (R165). -/
structure AccountEvents where
  low  : Bool := false
  stop : Bool := false
  deriving DecidableEq, Repr

/-- An account's entry of the meter report set; no period covered stands for no entry (R166). -/
structure MeterReport where
  sheets  : Nat := 0
  units   : Nat := 0
  periods : Nat := 0
  deriving DecidableEq, Repr

/-- The state of the notice unit: the two sets list their entries in rising order of account. -/
structure NoticeUnit where
  mask    : NoticeMask
  events  : List (Nat × AccountEvents)
  reports : List (Nat × MeterReport)
  deriving DecidableEq, Repr

/-- A station's permissions (section 2.6). -/
structure Permissions where
  submit : Bool
  manage : Bool
  deriving DecidableEq, Repr

/-- The global settings record (R177). -/
structure Settings where
  alertRepeat : Nat
  meterPeriod : Nat
  stallLimit  : Nat
  absentProbe : Nat
  faultPoll   : Nat
  warmLimit   : Nat
  deriving DecidableEq, Repr

/-- A pacing class (R98). -/
structure Pacing where
  interval     : Nat
  transitLimit : Nat
  deriving DecidableEq, Repr

/-- The state of the control unit. -/
structure ControlUnit where
  stations : Vector Permissions 256
  settings : Settings
  pacing   : Vector Pacing 4
  clock    : Full
  deriving DecidableEq, Repr

/-! ## The whole state -/

/-- The state of the MD416. The last three fields are the model's own: the press link messages sent since reset,
the counter of the free values of Config, and the queue of commands that wait. -/
structure State where
  link     : LinkUnit
  intake   : IntakeUnit
  spool    : Spool
  jobs     : JobTable
  binder   : Binder
  ports    : Vector PortRec 16
  table    : Vector PortEntry 16
  locks    : Vector Holder 4
  meter    : Meter
  alerts   : Vector AlertRec 16
  notices  : NoticeUnit
  control  : ControlUnit
  pressOut : List (Port × PressMsg)
  freeTick : Nat
  pending  : List Instr
  deriving DecidableEq, Repr

/-- The faults of the block: none. The spec names no event that stops the part, so the type is closed and empty;
that is safe, since nothing can be proved about a fault that does not occur. -/
inductive Fault where
  deriving DecidableEq, Repr

/-- The refusals of the block. -/
inductive Refusal where
  /-- Raised by `exec` for a command without a meaning, of which there is none; safe, the machine stops. -/
  | notModelled (mnemonic : String)
  deriving DecidableEq, Repr

/-! ## Reset (the Device reset columns of the chapters) -/

/-- The link unit after a device reset (section 2.10). -/
def LinkUnit.reset : LinkUnit where
  state := .down
  intakeBuf := []
  controlBuf := []
  replies := []
  target := .go
  lastFlow := none
  flags := {}
  tx := none

/-- The intake unit after a device reset (R59). -/
def IntakeUnit.reset : IntakeUnit where
  slots := Vector.replicate 8 none
  writeList := []
  stalled := none
  stallTimer := none

/-- The reset ranks: requester r, the intake writer or port r - 1, holds rank r (R109). -/
def resetRanks : Vector Nat 17 := ⟨#[0, 1, 2, 3, 4, 5, 6, 7, 8, 9, 10, 11, 12, 13, 14, 15, 16], rfl⟩

/-- The spool manager after a device reset (R11, R12, R108, R109); a byte nothing has written reads as 0
(DESIGN CHOICE, log 3). -/
def Spool.reset : Spool where
  pool := List.range' 0 65536
  links := []
  mem := []
  granted := none
  ranks := resetRanks

/-- The job table after a device reset (R1). -/
def JobTable.reset : JobTable where
  recs := Vector.replicate 128 none
  ended := []

/-- The binder after a device reset (section 4.9). -/
def Binder.reset : Binder where
  routes := Vector.replicate 64 0
  unbound := []
  queues := Vector.replicate 16 []
  bindOrder := []
  claims := Vector.replicate 16 none

/-- A port record after a device reset: PROBING, with its PROBE sent (R76, R85, R99). -/
def PortRec.reset : PortRec where
  state := .probing
  identity := none
  restDepth := none
  offlinePending := false
  outstanding := some .probe
  restSent := .light
  runOpen := false
  executing := false
  tagCounter := 0
  sheetsFed := 0
  sheetsGood := 0
  sheetsSpoiled := 0
  underruns := 0
  strays := 0
  buffer := []
  inFlight := []
  pendingDemand := false
  goodExits := 0
  endSent := false
  haltSent := false
  fetch := none
  warmInterval := 0
  gapTimer := none
  answerTimer := some Config.answerWindow
  endTimer := none
  standbyTimer := none
  warmTimer := none
  warmLimitTimer := none
  senseRetryTimer := none
  faultPollTimer := none
  absentProbeTimer := none

/-- A port table entry after a device reset (R77). -/
def PortEntry.reset : PortEntry where
  enabled := true
  pacing := 3
  finisher := none
  standbyDelay := 0
  restMode := .light
  lightWarm := 3
  deepWarm := 40

/-- An account after a device reset, other than account 0 (R132). -/
def AccountRec.reset : AccountRec where
  isOpen := false
  unlimited := false
  scale := 0
  balance := 0
  reserved := 0
  inFlight := 0
  lowThreshold := 0
  lowArmed := true
  chargedTotal := 0
  periodSheets := 0
  periodUnits := 0

/-- The house account, account 0, after a device reset (R132). -/
def AccountRec.house : AccountRec :=
  { AccountRec.reset with isOpen := true, unlimited := true, scale := 128 }

/-- The meter after a device reset (R132, R135, R149). -/
def Meter.reset : Meter where
  accounts := (Vector.replicate 256 AccountRec.reset).set 0 AccountRec.house
  rates := Vector.replicate 16 ⟨0, 0⟩
  periodTimer := some (Config.minutes 60)

/-- An alert record after a device reset (R151). -/
def AlertRec.reset : AlertRec where
  state := .idle
  kind := none
  location := none
  job := none
  position := none
  occurrences := 1
  raised := 0
  due := false
  repeatTimer := none

/-- The notice unit after a device reset (R171). -/
def NoticeUnit.reset : NoticeUnit where
  mask := ⟨true, true, true, true⟩
  events := []
  reports := []

/-- The global settings after a device reset (R177). -/
def Settings.reset : Settings where
  alertRepeat := 30
  meterPeriod := 60
  stallLimit := 10
  absentProbe := 10
  faultPoll := 5
  warmLimit := 120

/-- The control unit after a device reset (R36, R98, R177, R178). -/
def ControlUnit.reset : ControlUnit where
  stations := (Vector.replicate 256 ⟨true, false⟩).set 0 ⟨true, true⟩
  settings := Settings.reset
  pacing := Vector.replicate 4 ⟨3000, 20000⟩
  clock := 0

/-- The machine right after a device reset. -/
def State.reset : State where
  link := LinkUnit.reset
  intake := IntakeUnit.reset
  spool := Spool.reset
  jobs := JobTable.reset
  binder := Binder.reset
  ports := Vector.replicate 16 PortRec.reset
  table := Vector.replicate 16 PortEntry.reset
  locks := Vector.replicate 4 .free
  meter := Meter.reset
  alerts := Vector.replicate 16 AlertRec.reset
  notices := NoticeUnit.reset
  control := ControlUnit.reset
  pressOut := (List.finRange 16).map fun p => (p, .probe)
  freeTick := 0
  pending := []

end Sys2Proof.Machine
end

