-- ==== Sys2Proof/Machine/Ops.lean ====
section
/-! DEFINITION. The named operations over the tables and memories of the MD416: reading and writing one entry of a
table, the canonical lists that hold spool memory, the link records and the notice sets, the accessors of State,
and the lookups of jobs (R1, R2, R16). -/

namespace Sys2Proof.Machine

/-! ## Tables -/

/-- Entry i of a table. -/
def tget {α : Type} {n : Nat} (v : Vector α n) (i : Fin n) : α := v[i.val]

/-- The table with entry i replaced. -/
def tset {α : Type} {n : Nat} (v : Vector α n) (i : Fin n) (x : α) : Vector α n := v.set i.val x

/-- The table with every entry mapped. -/
def tmap {α β : Type} {n : Nat} (f : α → β) (v : Vector α n) : Vector β n :=
  ⟨⟨v.toList.map f⟩, by simp⟩

/-! ## Canonical sparse lists: rising keys, no entry equal to the default -/

/-- What key k reads as; an unlisted key reads as the default d. -/
def sget {β : Type} (d : β) (k : Nat) : List (Nat × β) → β
  | [] => d
  | (k', v) :: rest => if k = k' then v else sget d k rest

/-- Key k written with v: writing the default removes the entry. -/
def sput {β : Type} [DecidableEq β] (d : β) (k : Nat) (v : β) : List (Nat × β) → List (Nat × β)
  | [] => if v = d then [] else [(k, v)]
  | (k', v') :: rest =>
    if k < k' then (if v = d then (k', v') :: rest else (k, v) :: (k', v') :: rest)
    else if k = k' then (if v = d then rest else (k, v) :: rest)
    else (k', v') :: sput d k v rest

/-- The canonical form above a lower bound: keys rise strictly from lo and no entry holds the default. -/
def swfFrom {β : Type} [DecidableEq β] (d : β) (lo : Nat) : List (Nat × β) → Bool
  | [] => true
  | (k, v) :: rest => decide (lo ≤ k) && decide (v ≠ d) && swfFrom d (k + 1) rest

/-- The canonical form of a sparse list. -/
def swf {β : Type} [DecidableEq β] (d : β) (m : List (Nat × β)) : Bool := swfFrom d 0 m

/-! ## Accessors -/

/-- The record of port p. -/
def State.port (s : State) (p : Port) : PortRec := tget s.ports p

/-- The state with port p's record changed. -/
def State.modPort (s : State) (p : Port) (f : PortRec → PortRec) : State :=
  { s with ports := tset s.ports p (f (tget s.ports p)) }

/-- The port table entry of port p (R77). -/
def State.entry (s : State) (p : Port) : PortEntry := tget s.table p

/-- What job slot j holds. -/
def State.slot (s : State) (j : JobSlot) : Option Job := tget s.jobs.recs j

/-- The live job of slot j, if it is live (R1). -/
def State.live (s : State) (j : JobSlot) : Option Job :=
  match tget s.jobs.recs j with
  | some r => if r.outcome = none then some r else none
  | none => none

/-- The state with the record of slot j changed, if the slot holds one. -/
def State.modJob (s : State) (j : JobSlot) (f : Job → Job) : State :=
  { s with jobs := { s.jobs with recs := tset s.jobs.recs j ((tget s.jobs.recs j).map f) } }

/-- The record of account a (R132). -/
def State.account (s : State) (a : Account) : AccountRec := tget s.meter.accounts a

/-- The state with account a's record changed. -/
def State.modAccount (s : State) (a : Account) (f : AccountRec → AccountRec) : State :=
  { s with meter := { s.meter with accounts := tset s.meter.accounts a (f (tget s.meter.accounts a)) } }

/-- Port p's claim (R67). -/
def State.claim (s : State) (p : Port) : Option JobSlot := tget s.binder.claims p

/-- Port p's run queue (R66). -/
def State.queue (s : State) (p : Port) : List JobSlot := tget s.binder.queues p

/-- The state with port p's claim replaced. -/
def State.setClaim (s : State) (p : Port) (c : Option JobSlot) : State :=
  { s with binder := { s.binder with claims := tset s.binder.claims p c } }

/-- The holder of finisher lock f (R123). -/
def State.lock (s : State) (f : FinUnit) : Holder := tget s.locks f

/-- The alert record of port p (R151). -/
def State.alert (s : State) (p : Port) : AlertRec := tget s.alerts p

/-- The state with port p's alert record changed. -/
def State.modAlert (s : State) (p : Port) (f : AlertRec → AlertRec) : State :=
  { s with alerts := tset s.alerts p (f (tget s.alerts p)) }

/-- The job that port p has claimed, when it is live. -/
def State.claimedJob (s : State) (p : Port) : Option Job :=
  match s.claim p with
  | some j => s.live j
  | none => none

/-- The part sends a message down press link p. -/
def State.press (s : State) (p : Port) (m : PressMsg) : State := { s with pressOut := s.pressOut ++ [(p, m)] }

/-- One free value has been used; the next use reads another. -/
def State.bumpTick (s : State) : State := { s with freeTick := s.freeTick + 1 }

/-- One of several candidates, any of them where the spec lets either be taken first; no free value is read when
there is at most one (log 6). -/
def State.pickOne {α : Type} (s : State) (l : List α) : Option α × State :=
  match l with
  | [] => (none, s)
  | [x] => (some x, s)
  | x :: y :: rest =>
    (some ((x :: y :: rest).getD (Config.pick s.freeTick % (rest.length + 2)) x), s.bumpTick)

/-- All sixteen ports. -/
def allPorts : List Port := List.finRange 16

/-- All job slots in ascending order. -/
def allSlots : List JobSlot := List.finRange 128

/-! ## Looking a job up -/

/-- The live job that carries a pair, by R2. -/
def State.findPair (s : State) (station : Station) (tag : Half) : Option JobSlot :=
  allSlots.find? fun j =>
    match s.live j with
    | some r => decide (r.station = station) && decide (r.tag = tag)
    | none => false

/-- The lowest-numbered free job slot (R1). -/
def State.freeSlot (s : State) : Option JobSlot := allSlots.find? fun j => (s.slot j).isNone

/-- The intake slot that job j holds (R42). -/
def State.intakeSlotOf (s : State) (j : JobSlot) : Option (Fin 8) :=
  (List.finRange 8).find? fun i =>
    match tget s.intake.slots i with
    | some x => decide (x.job = j)
    | none => false

/-- A free intake slot: R42 has any free one taken, slots being interchangeable. DESIGN CHOICE (log 36): the
lowest-numbered. -/
def State.freeIntakeSlot (s : State) : Option (Fin 8) :=
  (List.finRange 8).find? fun i => (tget s.intake.slots i).isNone

/-- How many intake slots are held (R180). -/
def State.intakeHeld (s : State) : Nat := (s.intake.slots.toList.filter Option.isSome).length

/-- The port that job j claims, if it claims one. -/
def State.claimPort (s : State) (j : JobSlot) : Option Port := allPorts.find? fun p => decide (s.claim p = some j)

/-- A run of job j is open (R8). -/
def State.runOpenFor (s : State) (j : JobSlot) : Bool :=
  match s.claimPort j with
  | some p => (s.port p).runOpen
  | none => false

/-! ## Saturation -/

/-- The largest 32-bit value, at which the 32-bit saturating counters stay (00, Counters). -/
def max32 : Nat := 4294967295

/-- A sum that saturates at a largest value. -/
def satAdd (top a b : Nat) : Nat := min top (a + b)

end Sys2Proof.Machine
end

