-- ==== Sys2Proof/Machine/Operands.lean ====
section
/-! DEFINITION. The operand forms of chapter 12: byte order, the frame check, the frames and payloads of the job
link, the records of a press link, and the code of every enumerated value. -/

namespace Sys2Proof.Machine

/-! ## Byte order: most significant byte first (00, Numbers) -/

/-- The number that bytes spell, most significant first. -/
def beNat (bs : List Byte) : Nat := bs.foldl (fun n b => n * 256 + b.toNat) 0

/-- The k bytes of a number, most significant first. -/
def be : Nat → Nat → List Byte
  | 0, _ => []
  | k + 1, n => BitVec.ofNat 8 (n / 256 ^ k) :: be k n

/-- The half that two bytes spell. -/
def halfOf (a b : Byte) : Half := BitVec.ofNat 16 (a.toNat * 256 + b.toNat)

/-- An index in range, or none (R172, test 3). -/
def finOf (n : Nat) (k : Nat) : Option (Fin n) := if h : k < n then some ⟨k, h⟩ else none

/-- An index byte whose whole range is in range: a station or an account. -/
def index256 (b : Byte) : Fin 256 := ⟨b.toNat, b.isLt⟩

/-- A yes/no byte: 0 is no, any other value yes (R182). -/
def yesNo (b : Byte) : Bool := decide (b ≠ 0)

/-- A yes/no field as a byte (12.4). -/
def flagByte (b : Bool) : Byte := if b then 1 else 0

/-! ## The frame check (R29) -/

/-- Ones'-complement addition of 16-bit values: a carry out of the top is added back. -/
def onesAdd (a b : Nat) : Nat := if a + b ≥ 65536 then a + b - 65535 else a + b

/-- The ones'-complement sum of the words that bytes form, an odd last byte paired with a zero byte. -/
def onesSum : Nat → List Byte → Nat
  | acc, a :: b :: rest => onesSum (onesAdd acc (a.toNat * 256 + b.toNat)) rest
  | acc, [a] => onesAdd acc (a.toNat * 256)
  | acc, [] => acc

/-- The check of a header and payload. -/
def frameCheck (bs : List Byte) : Nat := 65535 - onesSum 0 bs

/-! ## Inbound frames (12.1, R28, R181) -/

/-- The inbound kind of a code. -/
def frameKind : Nat → Option FrameKind
  | 1 => some .openK
  | 2 => some .dataK
  | 3 => some .markK
  | 4 => some .closeK
  | 5 => some .abandonK
  | 6 => some .controlK
  | _ => none

/-- The payload length limit of a kind. -/
def payloadLimit : FrameKind → Nat
  | .openK => 9
  | .dataK => 1024
  | .markK => 3
  | .closeK => 0
  | .abandonK => 0
  | .controlK => 11

/-- An arriving frame, when it passes the frame check of R28. -/
def parseFrame (bs : List Byte) : Option Frame :=
  match bs with
  | k :: st :: t1 :: t0 :: sq :: rq :: l1 :: l0 :: rest =>
    let len := (l1.toNat * 256 + l0.toNat) % 2048
    match frameKind k.toNat with
    | none => none
    | some kind =>
      if rest.length = len + 2 ∧ len ≤ payloadLimit kind
          ∧ beNat (rest.drop len) = frameCheck (bs.take (8 + len)) then
        some { kind := kind, station := index256 st, tag := halfOf t1 t0, seq := sq, request := rq,
               payload := rest.take len }
      else none
  | _ => none

/-- An outbound frame's bytes: header, payload and check (R181, R29). -/
def OutFrame.wire (f : OutFrame) : List Byte :=
  let kind : Nat := match f.kind with
    | .replyK => 129
    | .noticeK => 130
    | .flowK => 131
  let body := be 1 kind ++ be 1 f.station.val ++ be 2 f.tag.toNat ++ [0, f.request] ++ be 2 f.payload.length
    ++ f.payload
  body ++ be 2 (frameCheck body)

/-! ## Job frame payloads (12.2, R47, R51) -/

/-- The fields of a well-formed OPEN, copies and priority clamped. -/
structure OpenArgs where
  account   : Account
  dest      : DestClass
  priority  : Fin 4
  copies    : Nat
  finishing : Finishing
  needs     : Needs
  clamped   : Bool
  deriving DecidableEq, Repr

/-- The finishing kind of a code. -/
def finishingOf : Nat → Option Finishing
  | 0 => some .noFinish
  | 1 => some .staple
  | 2 => some .fold
  | 3 => some .bind
  | _ => none

/-- The code of a finishing kind. -/
def Finishing.code : Finishing → Nat
  | .noFinish => 0
  | .staple => 1
  | .fold => 2
  | .bind => 3

/-- A priority clamped to 3 (R47, R74). -/
def clampPriority (n : Nat) : Fin 4 := ⟨min n 3, by omega⟩

/-- A number of copies clamped to 1..999 (R47). -/
def clampCopies (n : Nat) : Nat := max 1 (min n 999)

/-- A well-formed OPEN's fields (R47), none when it is malformed. -/
def decodeOpen (f : Frame) : Option OpenArgs :=
  match f.payload with
  | [acc, dst, pri, c1, c0, fin, need, m1, m0] =>
    match finOf 64 dst.toNat, finishingOf fin.toNat with
    | some dest, some finishing =>
      let copies := c1.toNat * 256 + c0.toNat
      let media := halfOf m1 m0
      if f.seq = 0 ∧ media ≠ 0 then
        some { account := index256 acc, dest := dest, priority := clampPriority pri.toNat,
               copies := clampCopies copies, finishing := finishing,
               needs := ⟨need.getLsbD 0, need.getLsbD 1, media⟩,
               clamped := decide (3 < pri.toNat) || decide (clampCopies copies ≠ copies) }
      else none
    | _, _ => none
  | _ => none

/-- The side mode of a code. -/
def sideModeOf : Nat → Option SideMode
  | 0 => some .blank
  | 1 => some .mono
  | 2 => some .color
  | _ => none

/-- The code of a side mode. -/
def SideMode.code : SideMode → Nat
  | .blank => 0
  | .mono => 1
  | .color => 2

/-- A media class stands in a media set. -/
def mediaIn (c : Media) (set : Half) : Bool := set.getLsbD c.val

/-- The lowest media class of a set (R53). -/
def lowestMedia (set : Half) : Media := ((List.finRange 16).find? fun c => mediaIn c set).getD 0

/-- The three values of a MARK, when its payload can be read (R51, 12.2). -/
def decodeMark (payload : List Byte) : Option (SideMode × SideMode × Media) :=
  match payload with
  | [a, b, c] =>
    match sideModeOf a.toNat, sideModeOf b.toNat, finOf 16 c.toNat with
    | some s1, some s2, some m => some (s1, s2, m)
    | _, _, _ => none
  | _ => none

/-- The declared-needs check of a MARK's values (R51). -/
def markAllowed (r : Job) (s1 s2 : SideMode) (m : Media) : Bool :=
  (r.needs.colour || (decide (s1 ≠ .color) && decide (s2 ≠ .color)))
    && (r.needs.duplex || decide (s2 = .blank))
    && mediaIn m r.needs.media
    && decide (r.received ≠ 65535)

/-! ## CONTROL payloads (R182, R183) -/

/-- The request code of a CONTROL payload, 0 when it is empty. -/
def requestCode (payload : List Byte) : Nat :=
  match payload with
  | [] => 0
  | c :: _ => c.toNat

/-- The payload length of a request, its code included; none for a code of no request. -/
def requestLength : Nat → Option Nat
  | 1 | 2 | 3 | 4 => some 5
  | 5 | 6 => some 6
  | 7 => some 1
  | 8 => some 4
  | 9 | 10 => some 2
  | 11 => some 1
  | 12 => some 11
  | 13 | 14 | 15 | 16 | 17 | 18 => some 2
  | 19 => some 6
  | 20 => some 2
  | 21 => some 3
  | 22 => some 1
  | 23 | 24 => some 2
  | 25 => some 1
  | 26 => some 9
  | 27 | 28 => some 6
  | 29 => some 2
  | 30 => some 6
  | 31 => some 2
  | 32 => some 3
  | 33 => some 2
  | 34 => some 2
  | 35 => some 1
  | 36 => some 5
  | 37 => some 2
  | 38 => some 10
  | 39 => some 1
  | 40 => some 5
  | 41 => some 1
  | 42 => some 2
  | _ => none

/-- The bytes after the request code have the form the request needs: a job reference of form 0 or 1, a rest mode
or account state byte of at most 1, a STATION WRITE count above 0 (R183). -/
def argsForm (code : Nat) (args : List Byte) : Bool :=
  match code, args with
  | 1, form :: _ | 2, form :: _ | 3, form :: _ | 4, form :: _ | 5, form :: _ | 6, form :: _ => decide (form.toNat ≤ 1)
  | 12, [_, _, _, _, _, _, rest, _, _, _] => decide (rest.toNat ≤ 1)
  | 26, _ :: state :: _ => decide (state.toNat ≤ 1)
  | 36, [_, c1, c0, _] => decide (c1 ≠ 0 ∨ c0 ≠ 0)
  | _, _ => true

/-- Test 2 of R172: the payload is a request of the catalogue, of its length and form. -/
def requestForm (payload : List Byte) : Bool :=
  decide (requestLength (requestCode payload) = some payload.length) && argsForm (requestCode payload) payload.tail

/-- How a request names a job (R173): by slot, or by station and tag. -/
inductive JobRef where
  | slot (n : Byte)
  | pair (station : Station) (tag : Half)
  deriving DecidableEq, Repr

/-- A job reference of four bytes; the form is 0 for slot and 1 for pair. -/
def jobRef (form a b c : Byte) : JobRef := if form = 0 then .slot a else .pair (index256 a) (halfOf b c)

/-- Bit k of a select set (R182). -/
def selected (set : Byte) (k : Nat) : Bool := set.getLsbD k

/-- A value stored at the nearest end of a range (00, Clamping). -/
def clamp (lo hi n : Nat) : Nat := max lo (min n hi)

/-! ## Press link records (12.5, R81, R82, R184) -/

/-- A RESULT's condition byte; a value above 9 is taken as ENGINE-FAULT (R184). -/
def conditionOf : Nat → Condition
  | 0 => .noCondition
  | 1 => .jamFeed
  | 2 => .jamPath
  | 3 => .jamExit
  | 4 => .mediaOut
  | 5 => .coverOpen
  | 6 => .underrun
  | 7 => .halted
  | 8 => .finisherFault
  | _ => .engineFault

/-- The condition byte of a sense result or READY-CHANGE: UNDERRUN and HALTED are taken as ENGINE-FAULT (R184). -/
def senseCondition (n : Nat) : Condition :=
  match conditionOf n with
  | .underrun | .halted => .engineFault
  | c => c

/-- A RESULT's class byte: above 3, and REFUSED, taken as FAILED (R84, R184). -/
def resultClassOf : Nat → ResultClass
  | 0 => .complete
  | 3 => .interrupted
  | _ => .failed

/-- An identity result's record and resting indication; none when it is taken as a REFUSE of the PROBE (R81). -/
def decodeIdentity (r : IdentityBytes) : Option (Identity × Bool) :=
  if 1 ≤ r.pathDepth.toNat ∧ r.pathDepth.toNat ≤ 4 ∧ r.media ≠ 0 then
    some ({ engineCode := r.engineCode, colour := r.capability.getLsbD 0, duplex := r.capability.getLsbD 1,
            media := r.media, pathDepth := r.pathDepth.toNat, connector := r.capability.getLsbD 2 },
          r.capability.getLsbD 3)
  else none

/-- The last tag of a RESULT, when it is present (R84, R184). -/
def lastTagOf (r : ResultBytes) : Option Byte := if r.lastTagPresent = 0 then none else some r.lastTag

/-- The disposition byte of an EXIT (R184). -/
def dispositionOf (b : Byte) : Disposition := if b = 0 then .good else .spoiled

/-- The bytes of a press link message (12.5). -/
def PressMsg.wire : PressMsg → List Byte
  | .probe | .sense | .warm | .run | .endRun | .halt => []
  | .rest .light => [0]
  | .rest .deep => [1]
  | .block bytes => bytes
  | .sheet h => [h.tag] ++ be 1 h.media.val ++ be 1 h.side1.code ++ be 1 h.side2.code ++ be 1 h.finishing.code
      ++ [flagByte h.setEnd] ++ be 2 h.count

/-! ## Codes of enumerated values (12.4) -/

/-- A reply code (11.2, 12.4). -/
inductive ReplyCode where
  | done | clamped | notPermitted | badRequest | badIndex | noSuchJob | busy | started | stale | noRoom
  | ineligible | inUse | held | accept | acceptClamped | refuse
  deriving DecidableEq, Repr

/-- The value of a reply code. -/
def ReplyCode.code : ReplyCode → Byte
  | .done => 0
  | .clamped => 1
  | .notPermitted => 2
  | .badRequest => 3
  | .badIndex => 4
  | .noSuchJob => 5
  | .busy => 6
  | .started => 7
  | .stale => 8
  | .noRoom => 9
  | .ineligible => 10
  | .inUse => 11
  | .held => 12
  | .accept => 16
  | .acceptClamped => 17
  | .refuse => 18

/-- Why an OPEN is refused (R46, 12.4). -/
inductive RefuseReason where
  | notPermitted | badHeader | duplicate | noAccount | noRoute | tableFull | intakeBusy
  deriving DecidableEq, Repr

/-- The value of a refuse reason. -/
def RefuseReason.code : RefuseReason → Byte
  | .notPermitted => 1
  | .badHeader => 2
  | .duplicate => 3
  | .noAccount => 4
  | .noRoute => 5
  | .tableFull => 6
  | .intakeBusy => 7

/-- The code of an alert state (12.4). -/
def AlertState.code : AlertState → Byte
  | .idle => 0
  | .activeUnacked => 1
  | .activeAcked => 2
  | .clearedUnacked => 3

/-- The code of an alert kind (12.4). -/
def AlertKind.code : AlertKind → Byte
  | .jam => 1
  | .transit => 2
  | .mediaOut => 3
  | .coverOpen => 4
  | .finisherFault => 5
  | .engineFault => 6
  | .noAnswer => 7
  | .warmFail => 8
  | .countMismatch => 9

/-- The code of a jam location (12.4). -/
def JamLocation.code : JamLocation → Byte
  | .feed => 1
  | .path => 2
  | .exit => 3

/-- The code of an outcome (12.4). -/
def JobOutcome.code : JobOutcome → Byte
  | .done => 1
  | .cancelled => 2
  | .broken => 3

/-- The code of a cancel reason (12.4). -/
def CancelReason.code : CancelReason → Byte
  | .station => 1
  | .management => 2
  | .purge => 3
  | .broken => 4

/-- The code of a broken reason (12.4). -/
def BrokenReason.code : BrokenReason → Byte
  | .gap => 1
  | .undeclared => 2
  | .spoolFull => 3
  | .linkDown => 4

/-- The code of a port state (12.4). -/
def PortState.code : PortState → Byte
  | .absent => 0
  | .probing => 1
  | .offline => 2
  | .standby => 3
  | .waking => 4
  | .ready => 5
  | .running => 6
  | .ending => 7
  | .faulted => 8

/-- The code of an intake phase (12.4). -/
def IntakePhase.code : IntakePhase → Byte
  | .receiving => 0
  | .complete => 1
  | .broken _ => 2

/-- The broken reason of an intake phase, when it is BROKEN. -/
def IntakePhase.reason : IntakePhase → Option BrokenReason
  | .broken r => some r
  | _ => none

/-- The code of a print phase (12.4). -/
def PrintPhase.code : PrintPhase → Byte
  | .unbound => 0
  | .queued => 1
  | .claimed => 2
  | .finished => 3

/-- The code of the outstanding command; none is 0. -/
def commandCode : Option Command → Byte
  | none => 0
  | some .probe => 1
  | some .sense => 2
  | some .warm => 3
  | some .rest => 4
  | some .run => 5

/-- The code of a link state (12.4). -/
def LinkState.code : LinkState → Byte
  | .down => 0
  | .up => 1

/-- The code of a rest mode or rest depth (12.4). -/
def RestMode.code : RestMode → Byte
  | .light => 0
  | .deep => 1

/-- The code of a FLOW state (12.4). -/
def Flow.code : Flow → Byte
  | .hold => 1
  | .go => 2

/-! ## Fields of read data (12.4) -/

/-- The bytes that k places of a payload hold where the spec gives them no contents, as in an absent field: free values
(logs 9 and 37). -/
def absentBytes (tick off k : Nat) : List Byte := (List.range k).map fun i => Config.absentByte tick (off + i)

/-- An optional field of k bytes, its presence byte at an offset of the payload. -/
def optional (tick off k : Nat) : Option (List Byte) → List Byte
  | some bs => 1 :: bs
  | none => 0 :: absentBytes tick (off + 1) k

/-- A cursor: copy and sheet, copy 0 for the end position (12.4). The intake edge of a RECEIVING job of 65,535 sheets is
sheet 65,536, which the two bytes of a sheet cannot hold: what is sent in its place is a free value (DESIGN CHOICE,
log 37). -/
def posBytes (tick off : Nat) : Pos → List Byte
  | .at c n => be 2 c ++ if n < 65536 then be 2 n else absentBytes tick (off + 2) 2
  | .endPos => [0, 0] ++ absentBytes tick (off + 2) 2

/-- An identity record as the six bytes of the identity result, resting 0. -/
def Identity.wire (r : Identity) : List Byte :=
  be 2 r.engineCode.toNat
    ++ be 1 ((if r.colour then 1 else 0) + (if r.duplex then 2 else 0) + (if r.connector then 4 else 0))
    ++ be 2 r.media.toNat ++ be 1 r.pathDepth

/-- A port table entry in the widths of its write. -/
def PortEntry.wire (e : PortEntry) : List Byte :=
  [flagByte e.enabled] ++ be 1 e.pacing.val ++ be 1 (match e.finisher with | some f => f.val | none => 255)
    ++ be 1 e.standbyDelay ++ [e.restMode.code] ++ be 1 e.lightWarm ++ be 2 e.deepWarm

/-- The intake flags as in CLEAR STATUS. -/
def IntakeFlags.wire (f : IntakeFlags) : List Byte :=
  be 1 ((if f.frameCheck then 1 else 0) + (if f.overrun then 2 else 0) + (if f.controlOverrun then 4 else 0)
    + (if f.unknownJob then 8 else 0) + (if f.notPermitted then 16 else 0))

/-- The declared needs: the needs byte and the media set. -/
def Needs.wire (n : Needs) : List Byte :=
  be 1 ((if n.colour then 1 else 0) + (if n.duplex then 2 else 0)) ++ be 2 n.media.toNat

/-- A list of job slots: a count, then each slot. -/
def slotList (l : List JobSlot) : List Byte := be 1 l.length ++ l.map fun j => BitVec.ofNat 8 j.val

/-- A holder: its kind, then slot, station, tag and port, all 0 unless the kind is job. -/
def State.holderWire (s : State) (h : Holder) : List Byte :=
  match h with
  | .free => [0, 0, 0, 0, 0, 0]
  | .management => [1, 0, 0, 0, 0, 0]
  | .job j p =>
    match s.slot j with
    | some r => [2] ++ be 1 j.val ++ be 1 r.station.val ++ be 2 r.tag.toNat ++ be 1 p.val
    | none => [2] ++ be 1 j.val ++ [0, 0, 0] ++ be 1 p.val

end Sys2Proof.Machine
end

