-- ==== Sys2Proof/Machine/Flags.lean ====
section
/-! DEFINITION. The flags of the link unit: the sticky intake flags (R35), the flow target that follows the count of
the intake buffer (R33), and the pending FLOW frame (R34). -/

namespace Sys2Proof.Machine

/-- The state with the intake flags changed. -/
def State.modFlags (s : State) (f : IntakeFlags → IntakeFlags) : State :=
  { s with link := { s.link with flags := f s.link.flags } }

/-- The intake flags with the named ones cleared: bit k of the set as in CLEAR STATUS (R180, R182). -/
def IntakeFlags.clear (f : IntakeFlags) (set : Byte) : IntakeFlags where
  frameCheck := f.frameCheck && !set.getLsbD 0
  overrun := f.overrun && !set.getLsbD 1
  controlOverrun := f.controlOverrun && !set.getLsbD 2
  unknownJob := f.unknownJob && !set.getLsbD 3
  notPermitted := f.notPermitted && !set.getLsbD 4

/-- A job frame joins the back of the intake buffer; a count that rises to 12 makes the flow target HOLD
(R31, R33). -/
def State.joinIntake (s : State) (f : Frame) : State :=
  { s with link := { s.link with
      intakeBuf := s.link.intakeBuf ++ [f]
      target := if s.link.intakeBuf.length + 1 = 12 then .hold else s.link.target } }

/-- The front frame leaves the intake buffer; a count that falls to 4 makes the flow target GO (R31, R33). -/
def State.takeFront (s : State) : State :=
  { s with link := { s.link with
      intakeBuf := s.link.intakeBuf.tail
      target := if s.link.intakeBuf.length = 5 then .go else s.link.target } }

/-- A reply is placed at the back of the reply queue (R39). -/
def State.placeReply (s : State) (r : Reply) : State :=
  { s with link := { s.link with replies := s.link.replies ++ [r] } }

/-- A FLOW frame is pending: the link is UP and the target differs from the last state sent (R34). -/
def State.flowPending (s : State) : Bool :=
  decide (s.link.state = .up) && decide (s.link.lastFlow ≠ some s.link.target)

end Sys2Proof.Machine
end

