-- ==== Sys2Proof/Machine/Spool.lean ====
section
/-! DEFINITION. The spool manager (sections 1.5 and 1.7): link records, the bytes of spool memory, the free pool, the
chain of a job, the search for a sheet, and the return of blocks. -/

namespace Sys2Proof.Machine

/-! ## Link records and bytes -/

/-- The link record of a block (R11). -/
def State.blockLink (s : State) (b : Block) : LinkRec := sget {} b s.spool.links

/-- The state with the link record of a block replaced. -/
def State.setBlockLink (s : State) (b : Block) (r : LinkRec) : State :=
  { s with spool := { s.spool with links := sput {} b r s.spool.links } }

/-- The bytes per block (section 1.5). -/
def blockSize : Nat := 2048

/-- One byte of spool memory; a byte nothing has written reads as 0 (log 3). -/
def readByte (m : List Host.Cell) (a : Nat) : Byte := sget 0 a m

/-- Bytes stored at rising addresses from a. -/
def storeBytes (a : Nat) : List Byte → List Host.Cell → List Host.Cell
  | [], m => m
  | b :: bs, m => storeBytes (a + 1) bs (sput 0 a b m)

/-- n bytes read at rising addresses from a. -/
def loadBytes (m : List Host.Cell) (a n : Nat) : List Byte := (List.range n).map fun i => readByte m (a + i)

/-- Memory's canonical form: addresses rise strictly and no listed byte is 0. -/
def memoryWf (m : List Host.Cell) : Bool := swf (0 : Byte) m

/-- The bytes that fill a block, as a BLOCK message carries them (R110). -/
def State.blockBytes (s : State) (b : Block) : List Byte :=
  loadBytes s.spool.mem (b * blockSize) (s.blockLink b).fill

/-! ## Chains -/

/-- The block n links behind b. -/
def State.follow (s : State) (b : Block) : Nat → Option Block
  | 0 => some b
  | n + 1 =>
    match (s.blockLink b).next with
    | some b' => s.follow b' n
    | none => none

/-- The blocks from b to the tail of its chain, at most n of them. -/
def State.chainFrom (s : State) : Nat → Block → List Block
  | 0, _ => []
  | n + 1, b =>
    b :: match (s.blockLink b).next with
      | some b' => s.chainFrom n b'
      | none => []

/-- The number of blocks of spool memory, which bounds every walk of a chain (section 1.5). -/
def blockCount : Nat := 65536

/-- A job's chain, head to tail. -/
def State.chain (s : State) (r : Job) : List Block :=
  match r.head with
  | some b => s.chainFrom blockCount b
  | none => []

/-- The search of R16 from a block that begins a sheet: the first block of sheet n, or none. -/
def State.searchSheet (s : State) (n : Nat) : Nat → Block → Option Block
  | 0, _ => none
  | fuel + 1, b =>
    match (s.blockLink b).sheet with
    | none => none
    | some st =>
      if st.number = n then some b
      else match s.follow b st.count with
        | none => none
        | some b' => s.searchSheet n fuel b'

/-- The first block of sheet n of a job, when it has been closed (R16). -/
def State.findSheet (s : State) (r : Job) (n : Nat) : Option Block :=
  match r.head with
  | none => none
  | some b => s.searchSheet n blockCount b

/-! ## The free pool -/

/-- Blocks return to the back of the free pool (R12). -/
def State.returnBlocks (s : State) (bs : List Block) : State :=
  { s with spool := { s.spool with pool := s.spool.pool ++ bs } }

/-- Job j takes the block at the front of the free pool: its link record is set fresh and it is appended to the
job's chain (R13). None when the pool is empty or the slot is free. -/
def State.takeBlock (s : State) (j : JobSlot) : Option (Block × State) :=
  match s.spool.pool, s.slot j with
  | b :: rest, some r =>
    let s1 := ({ s with spool := { s.spool with pool := rest } } : State).setBlockLink b {}
    match r.tail with
    | none => some (b, s1.modJob j fun r => { r with head := some b, tail := some b })
    | some t =>
      some (b, (s1.setBlockLink t { s1.blockLink t with next := some b }).modJob j fun r => { r with tail := some b })
  | _, _ => none

/-- The blocks of the sheet at the head of a job's chain return to the pool and the head moves behind them
(R21). -/
def State.freeFirstSheet (s : State) (j : JobSlot) : State :=
  match s.slot j with
  | none => s
  | some r =>
    match r.head with
    | none => s
    | some b =>
      match (s.blockLink b).sheet with
      | none => s
      | some st =>
        let s1 := s.returnBlocks (s.chainFrom st.count b)
        match s.follow b st.count with
        | some b' => s1.modJob j fun r => { r with head := some b' }
        | none => s1.modJob j fun r => { r with head := none, tail := none }

/-- The granted write at the front of the write list is marked void when it belongs to job j (R14). -/
def voidGranted (granted : Option Grant) (j : JobSlot) (l : List WriteEntry) : List WriteEntry :=
  match granted, l with
  | some .write, .write j' b off bytes v :: rest =>
    .write j' b off bytes (v || decide (j' = j)) :: rest
  | _, _ => l

/-- A job's whole chain returns to the pool; a granted write into it becomes void (R22, R14). -/
def State.freeChain (s : State) (j : JobSlot) : State :=
  match s.slot j with
  | none => s
  | some r =>
    let s1 := s.returnBlocks (s.chain r)
    let s2 := s1.modJob j fun r => { r with head := none, tail := none }
    { s2 with intake := { s2.intake with writeList := voidGranted s2.spool.granted j s2.intake.writeList } }

/-! ## The cursors (section 1.6) -/

/-- The intake edge: the position of the next sheet to arrive (R17). -/
def Job.edge (r : Job) : Pos := .at 1 (r.received + 1)

/-- The feed cursor waits at the intake edge (R17). -/
def Job.feedWaits (r : Job) : Bool := decide (r.feed.next = none) && decide (r.feed.pos = r.edge)

/-- The feed cursor at the end position. -/
def Cursor.atEnd : Cursor := ⟨.endPos, none⟩

/-- The feed cursor moves past a sheet that is fed (R18). -/
def State.advanceFeed (s : State) (r : Job) : Cursor :=
  match r.feed.pos with
  | .endPos => r.feed
  | .at c n =>
    if n < r.received then ⟨.at c (n + 1), s.findSheet r (n + 1)⟩
    else match r.intake with
      | .receiving => ⟨.at c (n + 1), none⟩
      | .complete => if c < r.copies then ⟨.at (c + 1) 1, r.head⟩ else Cursor.atEnd
      | .broken _ => Cursor.atEnd

/-- The record when its intake phase becomes COMPLETE: the cursors of R18 and R19, with a zero-sheet job done. -/
def Job.intakeComplete (r : Job) : Job :=
  if r.received = 0 then
    { r with intake := .complete, expected := none, feed := Cursor.atEnd, confirm := .endPos, copiesDone := r.copies }
  else
    { r with
      intake := .complete
      expected := none
      feed := if r.feedWaits then (if 2 ≤ r.copies then ⟨.at 2 1, r.head⟩ else Cursor.atEnd) else r.feed
      confirm := if r.confirm = r.edge then (if 2 ≤ r.copies then .at 2 1 else .endPos) else r.confirm
      copiesDone := if r.confirm = r.edge then r.copiesDone + 1 else r.copiesDone }

/-- The record when its intake phase becomes BROKEN (R18). -/
def Job.intakeBroken (r : Job) (why : BrokenReason) : Job :=
  { r with
    intake := .broken why
    expected := none
    feed := if r.feedWaits then Cursor.atEnd else r.feed }

/-- The confirm cursor passes the sheet it stands on (R19). -/
def Job.confirmPass (r : Job) : Job :=
  match r.confirm with
  | .endPos => r
  | .at c n =>
    if r.intake = .complete ∧ n = r.received then
      { r with
        copiesDone := r.copiesDone + 1
        confirm := if c < r.copies then .at (c + 1) 1 else .endPos }
    else { r with confirm := .at c (n + 1) }

/-- The rewind of R20: the feed cursor goes back to the confirm cursor. -/
def State.rewound (s : State) (r : Job) : Job :=
  match r.confirm with
  | .endPos => { r with feed := Cursor.atEnd }
  | .at c n =>
    if r.intake.reason ≠ none ∧ r.confirm = r.edge then { r with feed := Cursor.atEnd }
    else { r with feed := ⟨.at c n, s.findSheet r n⟩ }

/-- Job j is rewound (R20). -/
def State.rewind (s : State) (j : JobSlot) : State := s.modJob j fun r => s.rewound r

/-- The restart of the copy of R20, for a claim by port p: a job without release-behind whose last port is another
one goes back to sheet 1 of its confirm cursor's copy. -/
def Job.restartCopy (r : Job) (p : Port) : Job :=
  match r.confirm, r.lastPort with
  | .at c _, some q =>
    if r.releaseBehind = false ∧ q ≠ p then { r with feed := ⟨.at c 1, r.head⟩, confirm := .at c 1 } else r
  | _, _ => r

/-! ## Closing a sheet (R15, R52) -/

/-- A sheet of job j closes: its first block gets its sheet-start record, sheets received rises, and a feed cursor
that waits for the sheet stands on it. Also says whether the cursor waited. -/
def State.closeSheet (s : State) (j : JobSlot) (first : Block) (s1 s2 : SideMode) (m : Media) : State × Bool :=
  match s.slot j with
  | none => (s, false)
  | some r =>
    let st : SheetStart :=
      { number := r.received + 1, side1 := s1, side2 := s2, media := m, count := (s.chainFrom blockCount first).length }
    let waited := r.feedWaits
    ((s.setBlockLink first { s.blockLink first with sheet := some st }).modJob j fun r =>
      { r with received := r.received + 1, feed := if waited then ⟨r.feed.pos, some first⟩ else r.feed }, waited)

end Sys2Proof.Machine
end

