-- ==== Sys2Proof/Machine/Metering.lean ====
section
/-! DEFINITION. The meter (chapter 8): the cost of a sheet, the reservation at feed, charge and release, the low check,
the clearing of credit-stopped flags, and what is recorded for the notice unit. -/

namespace Sys2Proof.Machine

/-! ## The cost of a sheet (R136) -/

/-- The units of one side. -/
def sideUnits (r : Rate) : SideMode → Nat
  | .blank => 0
  | .mono => r.mono
  | .color => r.colour

/-- The cost of a sheet: its side units times the scale, in 128ths, rounded up (R136). -/
def sheetCost (r : Rate) (scale : Nat) (st : SheetStart) : Nat :=
  ((sideUnits r st.side1 + sideUnits r st.side2) * scale + 127) / 128

/-- The cost of the sheet that begins at a block, for an account, by the tables as they stand (R137). -/
def State.costAt (s : State) (a : Account) (b : Block) : Nat :=
  match (s.blockLink b).sheet with
  | some st => sheetCost (tget s.meter.rates st.media) (s.account a).scale st
  | none => 0

/-- The available credit of a limited account (R132). -/
def AccountRec.available (r : AccountRec) : Nat := r.balance - r.reserved

/-- The available credit as it is reported: 0 for an unlimited account (R150). -/
def AccountRec.reported (r : AccountRec) : Nat := if r.unlimited then 0 else r.available

/-- The account can cover a cost (R100 test 4, R138). -/
def AccountRec.covers (r : AccountRec) (cost : Nat) : Bool :=
  r.isOpen && (r.unlimited || decide (cost ≤ r.available))

/-! ## What is recorded for the notice unit (R165) -/

/-- The state with an account's entry of the account event set changed. -/
def State.modEvents (s : State) (a : Account) (f : AccountEvents → AccountEvents) : State :=
  { s with notices := { s.notices with
      events := sput {} a.val (f (sget {} a.val s.notices.events)) s.notices.events } }

/-- STOP is recorded for an account (R140). -/
def State.recordStop (s : State) (a : Account) : State := s.modEvents a fun e => { e with stop := true }

/-- LOW is recorded for an account (R144). -/
def State.recordLow (s : State) (a : Account) : State := s.modEvents a fun e => { e with low := true }

/-- The low check of R144. -/
def State.lowCheck (s : State) (a : Account) : State :=
  let r := s.account a
  if r.unlimited = true ∨ r.lowThreshold = 0 then s
  else if r.available < r.lowThreshold then
    (if r.lowArmed then (s.modAccount a fun r => { r with lowArmed := false }).recordLow a else s)
  else s.modAccount a fun r => { r with lowArmed := true }

/-! ## Credit-stopped flags (R143) -/

/-- A live job's credit-stopped flag is cleared when the test holds of it. -/
def clearStopped (test : Job → Bool) (o : Option Job) : Option Job :=
  o.map fun r => if r.outcome = none ∧ test r then { r with creditStopped := false } else r

/-- The credit-stopped flag of every live job of an account is cleared (R143). -/
def State.clearStops (s : State) (a : Account) : State :=
  { s with jobs := { s.jobs with recs := tmap (clearStopped fun r => decide (r.account = a)) s.jobs.recs } }

/-- The credit-stopped flag of every live job is cleared, at a rate write (R135). -/
def State.clearAllStops (s : State) : State :=
  { s with jobs := { s.jobs with recs := tmap (clearStopped fun _ => true) s.jobs.recs } }

/-! ## Reservation, charge, release -/

/-- The account after a granted reservation (R138). -/
def AccountRec.reserve (r : AccountRec) (cost : Nat) : AccountRec :=
  { r with reserved := if r.unlimited then r.reserved else r.reserved + cost, inFlight := r.inFlight + 1 }

/-- A granted reservation: the account's record, then the low check when its available credit fell (R138, R144). -/
def State.reserve (s : State) (a : Account) (cost : Nat) : State :=
  let s1 := s.modAccount a fun r => r.reserve cost
  if cost = 0 then s1 else s1.lowCheck a

/-- The account after a charge (R141). -/
def AccountRec.charge (r : AccountRec) (cost : Nat) (reserved : Bool) : AccountRec :=
  { r with
    balance := if reserved then r.balance - cost else r.balance
    reserved := if reserved then r.reserved - cost else r.reserved
    chargedTotal := satAdd max32 r.chargedTotal cost
    periodSheets := satAdd max32 r.periodSheets 1
    periodUnits := satAdd max32 r.periodUnits cost
    inFlight := r.inFlight - 1 }

/-- An entry's cost is charged to its job's account and counted on the job (R141). -/
def State.charge (s : State) (e : InFlight) : State :=
  match s.slot e.job with
  | none => s
  | some r =>
    (s.modAccount r.account fun x => x.charge e.cost e.costReserved).modJob e.job fun r =>
      { r with charged := satAdd max32 r.charged e.cost }

/-- The account after a release (R142). -/
def AccountRec.release (r : AccountRec) (cost : Nat) (reserved : Bool) : AccountRec :=
  { r with reserved := if reserved then r.reserved - cost else r.reserved, inFlight := r.inFlight - 1 }

/-- An entry's reservation is released; a rise of available credit makes the low check and clears the
credit-stopped flags of the account's jobs (R142, R143, R144). -/
def State.releaseReservation (s : State) (e : InFlight) : State :=
  match s.slot e.job with
  | none => s
  | some r =>
    let s1 := s.modAccount r.account fun x => x.release e.cost e.costReserved
    if e.costReserved = true ∧ 0 < e.cost then (s1.lowCheck r.account).clearStops r.account else s1

end Sys2Proof.Machine
end

