-- ==== Sys2Proof/Machine/Alerts.lean ====
section
/-! DEFINITION. The alert unit (chapter 9): what a condition is called, and how a record is raised, raised in its
condition-cleared form, cleared, compared with a report, and sent. -/

namespace Sys2Proof.Machine

/-- The alert kind and jam location that a fault condition names (R152); NONE, UNDERRUN and HALTED name none. -/
def Condition.alert : Condition → Option (AlertKind × Option JamLocation)
  | .noCondition | .underrun | .halted => none
  | .jamFeed => some (.jam, some .feed)
  | .jamPath => some (.jam, some .path)
  | .jamExit => some (.jam, some .exit)
  | .mediaOut => some (.mediaOut, none)
  | .coverOpen => some (.coverOpen, none)
  | .finisherFault => some (.finisherFault, none)
  | .engineFault => some (.engineFault, none)

/-- A record's state is unacked (R151). -/
def AlertState.unacked : AlertState → Bool
  | .activeUnacked | .clearedUnacked => true
  | .idle | .activeAcked => false

/-- Whether a raise into a state begins a fresh count (R154, R156). -/
def AlertState.fresh : AlertState → Bool
  | .idle | .activeAcked => true
  | .activeUnacked | .clearedUnacked => false

/-- A record with its identifying fields set, its count and raised time by R154, due and its timer stopped. -/
def AlertRec.fold (r : AlertRec) (state : AlertState) (kind : AlertKind) (loc : Option JamLocation)
    (job : Option (Station × Half)) (pos : Option (Nat × Nat)) (clock : Full) : AlertRec where
  state := state
  kind := some kind
  location := loc
  job := job
  position := pos
  occurrences := if r.state.fresh then 1 else min 255 (r.occurrences + 1)
  raised := if r.state.fresh then clock else r.raised
  due := true
  repeatTimer := none

/-- The pair of a port's claimed job (R153). -/
def State.claimedPair (s : State) (p : Port) : Option (Station × Half) :=
  (s.claimedJob p).map fun r => (r.station, r.tag)

/-- An alert of a kind is raised on port p's record (R153, R154). -/
def State.raise (s : State) (p : Port) (kind : AlertKind) (loc : Option JamLocation) (pos : Option (Nat × Nat)) :
    State :=
  s.modAlert p fun r => r.fold .activeUnacked kind loc (s.claimedPair p) pos s.control.clock

/-- The state a record takes at a raise of COUNT-MISMATCH (R156). -/
def AlertState.mismatch : AlertState → AlertState
  | .idle | .clearedUnacked => .clearedUnacked
  | .activeUnacked | .activeAcked => .activeUnacked

/-- COUNT-MISMATCH is raised in its condition-cleared form (R156). -/
def State.raiseMismatch (s : State) (p : Port) : State :=
  s.modAlert p fun r => r.fold r.state.mismatch .countMismatch none (s.claimedPair p) none s.control.clock

/-- A record to which a condition clear is reported (R157). -/
def AlertRec.cleared (r : AlertRec) : AlertRec :=
  match r.state with
  | .activeUnacked => { r with state := .clearedUnacked, due := true, repeatTimer := none }
  | .activeAcked => { r with state := .idle, due := true, repeatTimer := none }
  | .clearedUnacked | .idle => r

/-- Port p reports a condition clear (R157). -/
def State.reportClear (s : State) (p : Port) : State := s.modAlert p AlertRec.cleared

/-- A condition reported to a FAULTED port: a raise when its kind or location differs from the record's (R155). -/
def State.faultReport (s : State) (p : Port) (c : Condition) : State :=
  match c.alert with
  | none => s
  | some (kind, loc) =>
    if (s.alert p).kind = some kind ∧ (s.alert p).location = loc then s else s.raise p kind loc none

/-- A record that is taken as an ALERT notice (R158). -/
def AlertRec.sent (r : AlertRec) (interval : Nat) : AlertRec :=
  { r with due := false, repeatTimer := if r.state.unacked then some (Config.seconds interval) else r.repeatTimer }

/-- A record at link up: an unacked one becomes due (R27). -/
def AlertRec.atLinkUp (r : AlertRec) : AlertRec :=
  if r.state.unacked then { r with due := true, repeatTimer := none } else r

end Sys2Proof.Machine
end

