-- ==== Sys2Proof/Machine/Binding.lean ====
section
/-! DEFINITION. The binder (chapter 4): eligibility, binding, the run queues and the bind order, the unbound list and
its re-examination, displacement's lists, claims; and the holders of the finisher locks as claims take and release
them (R124, R126). -/

namespace Sys2Proof.Machine

/-! ## Eligibility (R61) -/

/-- Test 4 of R61: an identity covers declared needs. -/
def Identity.covers (i : Identity) (n : Needs) : Bool :=
  (!n.colour || i.colour) && (!n.duplex || i.duplex) && decide (n.media &&& ~~~i.media = 0)

/-- Tests 4 and 5 of R61 against an identity: what a queued job is tested by when an identity is taken (R71). -/
def identityFits (i : Identity) (e : PortEntry) (r : Job) : Bool :=
  i.covers r.needs && (decide (r.finishing = .noFinish) || (e.finisher.isSome && i.connector))

/-- Port p is eligible for a job (R61). -/
def State.eligible (s : State) (r : Job) (p : Port) : Bool :=
  (tget s.binder.routes r.dest).getLsbD p.val
    && (s.entry p).enabled
    && decide ((s.port p).state ≠ .absent) && decide ((s.port p).state ≠ .offline)
    && match (s.port p).identity with
      | some i => identityFits i (s.entry p) r
      | none => false

/-- Port p has room (section 4.2). -/
def State.hasRoom (s : State) (p : Port) : Bool := decide ((s.queue p).length < 8)

/-! ## Run queues and the bind order (R66) -/

/-- A job's priority, 0 for a slot that holds none. -/
def State.priorityOf (s : State) (j : JobSlot) : Nat :=
  match s.slot j with
  | some r => r.priority.val
  | none => 0

/-- Job a stands before job b in a run queue: by priority, then by place in the bind order (R66). -/
def State.queueBefore (s : State) (a b : JobSlot) : Bool :=
  decide (s.priorityOf a < s.priorityOf b)
    || (decide (s.priorityOf a = s.priorityOf b)
        && decide (s.binder.bindOrder.idxOf a < s.binder.bindOrder.idxOf b))

/-- A job inserted in a list before the first job that it stands before. -/
def insertBefore (before : JobSlot → JobSlot → Bool) (j : JobSlot) : List JobSlot → List JobSlot
  | [] => [j]
  | x :: rest => if before j x then j :: x :: rest else x :: insertBefore before j rest

/-- The state with port p's run queue changed. -/
def State.modQueue (s : State) (p : Port) (f : List JobSlot → List JobSlot) : State :=
  { s with binder := { s.binder with queues := tset s.binder.queues p (f (tget s.binder.queues p)) } }

/-- Job j joins port p's run queue and the back of the bind order, and is QUEUED there (R63, R66). -/
def State.bindTo (s : State) (j : JobSlot) (p : Port) : State :=
  let s1 : State := { s with binder := { s.binder with bindOrder := s.binder.bindOrder ++ [j] } }
  (s1.modQueue p (insertBefore s1.queueBefore j)).modJob j fun r => { r with phase := .queued, boundPort := some p }

/-- Job j leaves every run queue and the bind order. -/
def State.leaveQueues (s : State) (j : JobSlot) : State :=
  { s with binder := { s.binder with
      queues := tmap (fun q => q.filter (· ≠ j)) s.binder.queues
      bindOrder := s.binder.bindOrder.filter (· ≠ j) } }

/-- Job j leaves the unbound list (R65). -/
def State.leaveUnbound (s : State) (j : JobSlot) : State :=
  { s with binder := { s.binder with unbound := s.binder.unbound.filter (· ≠ j) } }

/-! ## Binding and re-examination (R63, R68) -/

/-- The port that R63 binds a job to: of the eligible ports with room, the one whose run queue is shortest, the
lowest-numbered of several. -/
def State.bestPort (s : State) (r : Job) : Option Port :=
  (allPorts.filter fun p => s.eligible r p && s.hasRoom p).foldl
    (fun best p =>
      match best with
      | none => some p
      | some q => if (s.queue p).length < (s.queue q).length then some p else some q) none

/-- Binding a job that stands on the unbound list, when it can be bound now. -/
def State.tryBind (s : State) (j : JobSlot) : State :=
  match s.slot j with
  | none => s
  | some r =>
    match s.bestPort r with
    | none => s
    | some p => (s.leaveUnbound j).bindTo j p

/-- The re-examination of R68: the unbound list walked from front to back. -/
def State.reexamine (s : State) : State := s.binder.unbound.foldl State.tryBind s

/-- Job j is UNBOUND, its bound port absent. -/
def State.markUnbound (s : State) (j : JobSlot) : State :=
  s.modJob j fun r => { r with phase := .unbound, boundPort := none }

/-- Jobs leave their run queue and join the front of the unbound list in their order (R65, R70, R71, R78). -/
def State.toUnboundFront (s : State) (js : List JobSlot) : State :=
  let s1 := js.foldl State.leaveQueues s
  let s2 := js.foldl State.markUnbound s1
  { s2 with binder := { s2.binder with unbound := js ++ s2.binder.unbound } }

/-! ## Locks and claims (R67, R124, R126) -/

/-- Every finisher lock that job j holds becomes free (R126). -/
def State.releaseLocks (s : State) (j : JobSlot) : State :=
  { s with locks := tmap (fun h =>
      match h with
      | .job j' p => if j' = j then .free else .job j' p
      | h => h) s.locks }

/-- Port p claims job j of its queue: the cursors by R20, then last port and print phase (R5, R67); a finishing job
takes the lock of the port's unit at the same event (R124). -/
def State.claimJob (s : State) (p : Port) (j : JobSlot) : State :=
  let s1 := (s.modJob j fun r => { r.restartCopy p with lastPort := some p, phase := .claimed }).setClaim p (some j)
  match s.slot j, (s.entry p).finisher with
  | some r, some f => if r.finishing = .noFinish then s1 else { s1 with locks := tset s1.locks f (.job j p) }
  | _, _ => s1

/-- Port p's claim is released; the job, still in its queue, is QUEUED again (R67), rewound (R20), and its locks are
free (R70 step 1, R95 steps 3 and 4). -/
def State.releaseClaim (s : State) (p : Port) : State :=
  match s.claim p with
  | none => s
  | some j => (((s.rewind j).modJob j fun r => { r with phase := .queued }).setClaim p none).releaseLocks j

/-- Every claim on job j is released, at its end (R9 step 3). -/
def State.dropClaims (s : State) (j : JobSlot) : State :=
  { s with binder := { s.binder with claims := tmap (fun c => if c = some j then none else c) s.binder.claims } }

end Sys2Proof.Machine
end

