-- ==== Sys2Proof/Machine/JobEnd.lean ====
section
/-! DEFINITION. What every block does with a job's life: sending END to its port, leaving RECEIVING (R55), cancellation
(R6, R7), breaks (R4), and the end of a job (R8, R9). -/

namespace Sys2Proof.Machine

/-! ## END and HALT (R104, R105, R84) -/

/-- Port p stands in RUNNING with its run in execution: the state in which it feeds. -/
def PortRec.feeding (r : PortRec) : Bool := decide (r.state = .running) && r.executing

/-- The end window starts with the first END, HALT or not-ready of a run and is not restarted (R84). -/
def PortRec.startEnd (r : PortRec) : PortRec :=
  { r with state := .ending, endTimer := some (r.endTimer.getD Config.endWindow) }

/-- The port sends END and enters ENDING, once in a run (R104). -/
def State.sendEnd (s : State) (p : Port) : State :=
  if (s.port p).feeding && !(s.port p).endSent then
    (s.modPort p fun r => { r.startEnd with endSent := true }).press p .endRun
  else s

/-- The port sends HALT and enters ENDING, once in a run (R105). -/
def State.sendHalt (s : State) (p : Port) : State :=
  if (s.port p).executing && !(s.port p).haltSent then
    (s.modPort p fun r => { r.startEnd with haltSent := true }).press p .halt
  else s

/-- The port that feeds job j sends END (R7 step 2, R119, R120). -/
def State.stopFeeding (s : State) (j : JobSlot) : State :=
  match s.claimPort j with
  | some p => s.sendEnd p
  | none => s

/-! ## Leaving RECEIVING (R55) -/

/-- The entry belongs to job j; a void write belongs to a job that has ended (R14). -/
def WriteEntry.isOf (e : WriteEntry) (j : JobSlot) : Bool :=
  match e with
  | .write j' _ _ _ v => decide (j' = j) && !v
  | .mark j' _ _ _ _ => decide (j' = j)

/-- The write list without a job's entries, but for a granted write at the front (R55 step 2). -/
def withoutJob (granted : Option Grant) (j : JobSlot) (l : List WriteEntry) : List WriteEntry :=
  match granted, l with
  | some .write, e :: rest => e :: rest.filter fun e => !e.isOf j
  | _, _ => l.filter fun e => !e.isOf j

/-- The intake unit's part of a job's leaving RECEIVING: its slot is freed and its entries that have not been granted
leave the write list (R55). -/
def State.leaveIntake (s : State) (j : JobSlot) : State :=
  { s with intake := { s.intake with
      slots := tmap (fun o =>
        match o with
        | some x => if x.job = j then none else some x
        | none => none) s.intake.slots
      writeList := withoutJob s.spool.granted j s.intake.writeList } }

/-! ## The end of a job (R8, R9) -/

/-- The job is done: intake COMPLETE and every copy done (R8). -/
def Job.isDone (r : Job) : Bool := decide (r.intake = .complete) && decide (r.copiesDone = r.copies)

/-- The outcome at the end (R8). -/
def Job.endOutcome (r : Job) : JobOutcome :=
  if r.isDone then .done
  else match r.cancel with
    | some .broken => .broken
    | _ => .cancelled

/-- Job j stands in some run queue. -/
def State.inQueue (s : State) (j : JobSlot) : Bool := allPorts.any fun p => decide (j ∈ s.queue p)

/-- The steps of R9: the job of slot j ends. -/
def State.endJob (s : State) (j : JobSlot) : State :=
  let s1 := (s.modJob j fun r => { r with outcome := some r.endOutcome }).leaveIntake j
  let queued := s1.inQueue j
  let s2 := ((s1.dropClaims j).leaveQueues j).leaveUnbound j
  let s3 := if queued then s2.reexamine else s2
  let s4 := (s3.releaseLocks j).modJob j fun r => { r with phase := .finished, boundPort := none }
  let s5 := s4.freeChain j
  if s5.notices.mask.jobEnd then { s5 with jobs := { s5.jobs with ended := s5.jobs.ended ++ [j] } }
  else { s5 with jobs := { s5.jobs with recs := tset s5.jobs.recs j none } }

/-- The test of R8: a live job that is done, or whose cancel requested is set, ends when no run of it is open. -/
def State.tryEnd (s : State) (j : JobSlot) : State :=
  match s.live j with
  | none => s
  | some r => if (r.isDone || r.cancel.isSome) && !s.runOpenFor j then s.endJob j else s

/-! ## Cancellation and breaks (R4, R6, R7) -/

/-- The intake phase of a receiving job becomes COMPLETE (R4, R18, R19). -/
def State.completeIntake (s : State) (j : JobSlot) : State := (s.modJob j Job.intakeComplete).leaveIntake j

/-- Cancel requested is set on live job j, with the effects of R7; a first reason stays (R6). -/
def State.cancelJob (s : State) (j : JobSlot) (why : CancelReason) : State :=
  match s.live j with
  | none => s
  | some r =>
    if r.cancel.isSome then s
    else
      let s1 := s.modJob j fun r => { r with cancel := some why }
      let s2 := if r.intake = .receiving then s1.completeIntake j else s1
      (s2.stopFeeding j).tryEnd j

/-- A receiving job breaks: its intake phase becomes BROKEN, and it is cancelled with reason BROKEN (R4, R6, R55). -/
def State.breakJob (s : State) (j : JobSlot) (why : BrokenReason) : State :=
  match s.live j with
  | none => s
  | some _ =>
    let s1 := s.modJob j fun r => { r.intakeBroken why with cancel := some (r.cancel.getD .broken) }
    ((s1.leaveIntake j).stopFeeding j).tryEnd j

end Sys2Proof.Machine
end

