-- ==== Sys2Proof/Machine/Running.lean ====
section
/-! DEFINITION. Runs (chapter 6): the startable test, starting a run, feeding, the in-flight list and the resolution of
its entries, the port buffer and DEMAND, the fetcher, and the closing of a run's data path. -/

namespace Sys2Proof.Machine

/-! ## Commands on a press link (R79, R80) -/

/-- The part sends a command on link p: it is outstanding and its answer timer runs. -/
def State.sendCommand (s : State) (p : Port) (c : Command) (m : PressMsg) : State :=
  (s.modPort p fun r => { r with outstanding := some c, answerTimer := some Config.answerWindow }).press p m

/-- The outstanding command of a port has ended: its answer was taken, or it is abandoned (R79). -/
def PortRec.answered (r : PortRec) : PortRec := { r with outstanding := none, answerTimer := none }

/-- A discarded answer or report is counted (R97). -/
def State.stray (s : State) (p : Port) : State := s.modPort p fun r => { r with strays := r.strays + 1 }

/-! ## The startable test (R100) -/

/-- Tests 1 to 4 of R100. -/
def State.readyJob (s : State) (p : Port) (j : JobSlot) : Bool :=
  decide (j ∈ s.queue p) &&
  match s.live j with
  | none => false
  | some r =>
    !r.held && !r.creditStopped && r.cancel.isNone &&
    match r.feed.next with
    | none => false
    | some b => (s.account r.account).covers (s.costAt r.account b)

/-- Test 5 of R100: no finisher is needed, or the lock of the port's unit is free or held by this job. -/
def State.lockAllows (s : State) (p : Port) (j : JobSlot) : Bool :=
  match s.slot j with
  | none => false
  | some r =>
    decide (r.finishing = .noFinish) ||
    match (s.entry p).finisher with
    | none => false
    | some f =>
      match s.lock f with
      | .free => true
      | .management => false
      | .job j' _ => decide (j' = j)

/-- Job j is startable on port p (R100). -/
def State.startable (s : State) (p : Port) (j : JobSlot) : Bool := s.readyJob p j && s.lockAllows p j

/-- The first startable job of a port's queue (R101). -/
def State.firstStartable (s : State) (p : Port) : Option JobSlot := (s.queue p).find? fun j => s.startable p j

/-! ## Starting a run, warming (R89, R102) -/

/-- The run state at the sending of RUN (R99). -/
def PortRec.newRun (r : PortRec) : PortRec :=
  { r with state := .running, runOpen := true, executing := false, goodExits := 0, endSent := false,
           haltSent := false, gapTimer := none, fetch := none }

/-- Port p starts a run: RUN is sent (R102). -/
def State.startRun (s : State) (p : Port) : State := (s.modPort p PortRec.newRun).sendCommand p .run .run

/-- Port p sends WARM and enters WAKING (R89). -/
def State.sendWarm (s : State) (p : Port) : State :=
  let e := s.entry p
  (s.modPort p fun r =>
    { r with
      state := .waking
      warmLimitTimer := some (Config.seconds s.control.settings.warmLimit)
      warmInterval := Config.seconds (if r.restDepth = some .light then e.lightWarm else e.deepWarm) }).sendCommand
    p .warm .warm

/-- What follows a claim: in STANDBY, WARM; in READY a run when the job is startable (R101, R102). -/
def State.afterClaim (s : State) (p : Port) (j : JobSlot) : State :=
  if (s.port p).state = .standby then s.sendWarm p
  else if (s.port p).state = .ready ∧ s.startable p j = true then s.startRun p
  else s

/-- Port p claims job j and goes on with it (R101). -/
def State.claimAndGo (s : State) (p : Port) (j : JobSlot) : State := (s.claimJob p j).afterClaim p j

/-! ## The in-flight list and the port buffer (R106, R110) -/

/-- The path depth of a port's identity (R103). -/
def PortRec.depth (r : PortRec) : Nat :=
  match r.identity with
  | some i => i.pathDepth
  | none => 0

/-- The block count of the sheet that begins at a block (R15). -/
def State.sheetCount (s : State) (b : Block) : Nat :=
  match (s.blockLink b).sheet with
  | some st => st.count
  | none => 0

/-- An in-flight entry of a port has this tag. -/
def PortRec.hasTag (r : PortRec) (tag : Byte) : Bool := r.inFlight.any fun e => decide (e.tag = tag)

/-- The front block of the buffer is sendable: it belongs to an in-flight entry (R110). -/
def PortRec.sendable (r : PortRec) : Bool :=
  match r.buffer with
  | h :: _ => r.hasTag h.owner
  | [] => false

/-- The port record after its front block is sent (R110). -/
def PortRec.sentFront (r : PortRec) : PortRec :=
  match r.buffer with
  | h :: rest =>
    { r with buffer := rest,
             inFlight := r.inFlight.map fun e => if e.tag = h.owner then { e with sent := e.sent + 1 } else e }
  | [] => r

/-- The front block of port p's buffer is sent as a BLOCK (R110). -/
def State.sendFront (s : State) (p : Port) : State :=
  match (s.port p).buffer with
  | h :: _ => (s.modPort p PortRec.sentFront).press p (.block h.bytes)
  | [] => s

/-- The port record without what it holds and has requested for an entry that leaves the list: held blocks leave the
buffer, a waiting request is withdrawn, a granted one will be discarded (R110). -/
def PortRec.dropOwner (r : PortRec) (tag : Byte) : PortRec :=
  { r with
    buffer := r.buffer.filter fun h => decide (h.owner ≠ tag)
    fetch := match r.fetch with
      | none => none
      | some f =>
        if f.owner = tag then (if f.granted then some { f with discard := true } else none) else some f }

/-- The port record after an entry leaves the in-flight list. -/
def PortRec.dropEntry (r : PortRec) (tag : Byte) : PortRec :=
  { r.dropOwner tag with inFlight := r.inFlight.filter fun e => decide (e.tag ≠ tag) }

/-- The confirm cursor of job j passes a sheet; a release-behind job frees the sheet's blocks (R19, R21). -/
def State.confirmSheet (s : State) (j : JobSlot) : State :=
  match s.slot j with
  | none => s
  | some r =>
    let s1 := s.modJob j Job.confirmPass
    if r.releaseBehind then s1.freeFirstSheet j else s1

/-- An entry is resolved GOOD (R114). -/
def State.resolveGood (s : State) (p : Port) (e : InFlight) : State :=
  let s1 := s.charge e
  let s2 := (s1.modPort p fun r => { r with sheetsGood := r.sheetsGood + 1 }).modJob e.job fun r =>
    { r with delivered := satAdd max32 r.delivered 1 }
  let s3 := match s2.slot e.job with
    | some r => if r.confirm = Pos.at e.copy e.sheet then s2.confirmSheet e.job else s2
    | none => s2
  s3.modPort p fun r => r.dropEntry e.tag

/-- An entry is resolved SPOILED (R115). -/
def State.resolveSpoiled (s : State) (p : Port) (e : InFlight) : State :=
  (s.releaseReservation e).modPort p fun r => { r with sheetsSpoiled := r.sheetsSpoiled + 1 }.dropEntry e.tag

/-! ## Feeding (R103, R104) -/

/-- Steps 1 and 2 of a feed attempt: END has not been sent, the list has room, the gap timer is stopped, and the feed
cursor stands on a sheet (R103, R104). -/
def State.mayFeed (s : State) (p : Port) : Bool :=
  (s.port p).feeding && !(s.port p).endSent && decide ((s.port p).inFlight.length < (s.port p).depth) &&
    (s.port p).gapTimer.isNone &&
  match s.claimedJob p with
  | some r => r.feed.next.isSome
  | none => false

/-- The in-flight entry of a fed sheet (R106). -/
def newEntry (tag : Byte) (j : JobSlot) (r : Job) (b : Block) (cost : Nat) (reserved : Bool) : InFlight where
  tag := tag
  job := j
  copy := match r.feed.pos with | .at c _ => c | .endPos => 0
  sheet := match r.feed.pos with | .at _ n => n | .endPos => 0
  first := b
  sent := 0
  cost := cost
  costReserved := reserved
  picked := false
  transit := none
  disposition := none

/-- The SHEET header of a fed sheet: set-end is marked on sheet N of its copy when intake is COMPLETE (R103, R18). -/
def sheetHeader (tag : Byte) (r : Job) (st : SheetStart) : SheetHeader where
  tag := tag
  media := st.media
  side1 := st.side1
  side2 := st.side2
  finishing := r.finishing
  setEnd := decide (r.intake = .complete) && decide (st.number = r.received)
  count := st.count

/-- The sheet at job j's feed cursor is fed on port p, its cost reserved (R103). -/
def State.feedSheet (s : State) (p : Port) (j : JobSlot) (r : Job) (b : Block) (st : SheetStart) : State :=
  let cost := sheetCost (tget s.meter.rates st.media) (s.account r.account).scale st
  let tag := (s.port p).tagCounter
  let e := newEntry tag j r b cost (!(s.account r.account).unlimited)
  let s1 := s.reserve r.account cost
  let s2 := (s1.modPort p fun x =>
    { x with inFlight := x.inFlight ++ [e], tagCounter := x.tagCounter + 1, sheetsFed := x.sheetsFed + 1 }).press p
    (.sheet (sheetHeader tag r st))
  s2.modJob j fun x => { x with feed := s.advanceFeed r }

/-- The meter refuses a reservation: STOP is recorded, the job is credit-stopped and END is sent (R104, R140). -/
def State.refuseFeed (s : State) (p : Port) (j : JobSlot) (a : Account) : State :=
  ((s.recordStop a).modJob j fun r => { r with creditStopped := true }).sendEnd p

/-- A feed attempt (R103), with END when it feeds the last sheet (R104); up to n sheets, since a port that has fed
"may feed the next sheet at once" (log 8). -/
def State.feedAttempt (p : Port) : Nat → State → State
  | 0, s => s
  | n + 1, s =>
    if s.mayFeed p then
      match s.claim p with
      | none => s
      | some j =>
        match s.slot j with
        | none => s
        | some r =>
          match r.feed.next with
          | none => s
          | some b =>
            match (s.blockLink b).sheet with
            | none => s
            | some st =>
              if (s.account r.account).covers
                  (sheetCost (tget s.meter.rates st.media) (s.account r.account).scale st) then
                let s1 := s.feedSheet p j r b st
                let s2 := if (s.advanceFeed r).pos = Pos.endPos then s1.sendEnd p else s1
                if s2.mayFeed p then
                  (if Config.feedsAgain s2.freeTick then State.feedAttempt p n s2.bumpTick else s2.bumpTick)
                else s2
              else s.refuseFeed p j r.account
    else s

/-- The most sheets one event can feed: the largest path depth (R81). -/
def maxDepth : Nat := 4

/-- Port p makes a feed attempt (R103). -/
def State.attemptFeed (s : State) (p : Port) : State := State.feedAttempt p maxDepth s

/-- END when the in-flight list is empty and no sheet stands at the feed cursor: the job is starved, or has no sheet
left to feed (R104). -/
def State.endIfDry (s : State) (p : Port) : State :=
  match s.claimedJob p with
  | none => s
  | some r =>
    if (s.port p).feeding && (s.port p).inFlight.isEmpty && r.feed.next.isNone then s.sendEnd p else s

/-- The feed attempt at the closing of the sheet that job j's feed cursor waited for (R103). -/
def State.feedClosed (s : State) (j : JobSlot) (waited : Bool) : State :=
  if waited then
    match s.claimPort j with
    | some p => s.attemptFeed p
    | none => s
  else s

/-! ## The end of a run's data path (R117) -/

/-- Every entry of port p's list is resolved SPOILED, oldest first (R117 step 1). -/
def State.spoilAll (s : State) (p : Port) : State := (s.port p).inFlight.foldl (fun s e => s.resolveSpoiled p e) s

/-- The port record with its data path closed (R117 step 2). -/
def PortRec.closePath (r : PortRec) : PortRec :=
  { r with
    buffer := []
    pendingDemand := false
    gapTimer := none
    fetch := match r.fetch with
      | some f => if f.granted then some { f with discard := true } else none
      | none => none }

/-- A run of port p stops being open without a result: its entries are spoiled and its data path closed
(R93, R95, R102). -/
def State.abandonRun (s : State) (p : Port) : State :=
  (s.spoilAll p).modPort p fun r => { r.closePath with runOpen := false, executing := false }

/-! ## The fetcher (R107) -/

/-- How many blocks of an owner the buffer holds. -/
def PortRec.heldFor (r : PortRec) (tag : Byte) : Nat := (r.buffer.filter fun h => decide (h.owner = tag)).length

/-- The first block of the send sequence that is neither sent nor held, with the tag of its sheet (R107). -/
def State.wanted (s : State) (p : Port) : Option (Block × Byte) :=
  let r := s.port p
  match r.inFlight.find? fun e => decide (e.sent + r.heldFor e.tag < s.sheetCount e.first) with
  | some e => (s.follow e.first (e.sent + r.heldFor e.tag)).map fun b => (b, e.tag)
  | none =>
    if r.state = .running ∧ r.endSent = false then
      match s.claimedJob p with
      | none => none
      | some j =>
        match j.feed.next with
        | none => none
        | some b =>
          if r.heldFor r.tagCounter < s.sheetCount b then
            (s.follow b (r.heldFor r.tagCounter)).map fun b => (b, r.tagCounter)
          else none
    else none

/-- The granted transfer is a fetch of port p. -/
def Grant.isFetchOf (g : Option Grant) (p : Port) : Bool :=
  match g with
  | some (.fetch q _) => decide (q = p)
  | _ => false

/-- The fetcher of port p places its request when R107 lets it; each requester has at most one request waiting or
granted (R108). -/
def State.placeFetch (s : State) (p : Port) : State :=
  let r := s.port p
  if r.runOpen && !r.haltSent && r.fetch.isNone && decide (r.buffer.length < 2)
      && !Grant.isFetchOf s.spool.granted p then
    match s.wanted p with
    | some (b, tag) => s.modPort p fun r => { r with fetch := some ⟨b, tag, false, false⟩ }
    | none => s
  else s

/-- Port p's pending DEMAND is served when its front block has become sendable (R110), and its fetcher requests. -/
def State.servePort (s : State) (p : Port) : State :=
  let s1 :=
    if (s.port p).pendingDemand && (s.port p).sendable then
      (s.sendFront p).modPort p fun r => { r with pendingDemand := false }
    else s
  s1.placeFetch p

end Sys2Proof.Machine
end

