-- ==== Sys2Proof/Machine/Closing.lean ====
section
/-! DEFINITION. What the part does by itself at the end of a step, once the step's own effects stand: a released
finisher lock is handed on (R127), ports claim and start (R101, R102), port buffers are served and fetches requested
(R107, R110), spool memory is granted (R108), standby timers and the stall follow their conditions (R88, R56, R57), and
the transmitter makes its choice (R41). -/

namespace Sys2Proof.Machine

/-! ## Finisher locks (R125, R127) -/

/-- Port p may claim: READY or STANDBY, no claim, no command outstanding (R101). -/
def State.mayClaim (s : State) (p : Port) : Bool :=
  (s.claim p).isNone && (s.port p).outstanding.isNone
    && (decide ((s.port p).state = .ready) || decide ((s.port p).state = .standby))

/-- Job j needs a finisher. -/
def State.isFinishing (s : State) (j : JobSlot) : Bool :=
  match s.slot j with
  | some r => decide (r.finishing ≠ .noFinish)
  | none => false

/-- The job that port p contends with for lock f: the first job of its queue that passes tests 1 to 4, when that job
needs a finisher (R125). -/
def State.contender (s : State) (f : FinUnit) (p : Port) : Option (Port × JobSlot) :=
  if s.mayClaim p && decide ((s.entry p).finisher = some f) then
    match (s.queue p).find? fun j => s.readyJob p j with
    | some j => if s.isFinishing j then some (p, j) else none
    | none => none
  else none

/-- One contender stands before another: by priority, place in the bind order, port number (R127). -/
def State.contendsBefore (s : State) (a b : Port × JobSlot) : Bool :=
  s.queueBefore a.2 b.2 || (!s.queueBefore b.2 a.2 && decide (a.1.val < b.1.val))

/-- The contender that a free lock goes to (R127). -/
def State.lockWinner (s : State) (f : FinUnit) : Option (Port × JobSlot) :=
  (allPorts.filterMap (s.contender f)).foldl
    (fun best c =>
      match best with
      | none => some c
      | some b => if s.contendsBefore c b then some c else some b) none

/-- Lock f is handed on when the step released it: its holder was not NONE before and is NONE now (R127). -/
def State.grantLock (before s : State) (f : FinUnit) : State :=
  if before.lock f ≠ .free ∧ s.lock f = .free then
    match s.lockWinner f with
    | some (p, j) => s.claimAndGo p j
    | none => s
  else s

/-- The grants of R127 for all four locks. -/
def State.grantLocks (before s : State) : State := (List.finRange 4).foldl (State.grantLock before) s

/-! ## Claims and runs (R101, R102) -/

/-- Port p has something to start: its claimed job is startable and no command is outstanding, or it may claim and a
job of its queue is startable. -/
def State.wantsToAct (s : State) (p : Port) : Bool :=
  match s.claim p with
  | some j =>
    (s.port p).outstanding.isNone && (decide ((s.port p).state = .ready) || decide ((s.port p).state = .standby))
      && s.startable p j
  | none => s.mayClaim p && (s.firstStartable p).isSome

/-- Port p acts: it starts its claimed job, or claims the first startable job of its queue. -/
def State.act (s : State) (p : Port) : State :=
  match s.claim p with
  | some j => s.afterClaim p j
  | none =>
    match s.firstStartable p with
    | some j => s.claimAndGo p j
    | none => s

/-- The ports examine their queues, in any order where several have something to start (R124; log 6), at most n of
them. -/
def State.actPorts : Nat → State → State
  | 0, s => s
  | n + 1, s =>
    let c := s.pickOne (allPorts.filter s.wantsToAct)
    match c.1 with
    | some p => State.actPorts n (c.2.act p)
    | none => s

/-! ## The spool arbiter (R108) -/

/-- The intake writer has a request waiting: a write stands at the front of the list and is not granted (R43). -/
def State.writerWaits (s : State) : Bool :=
  match s.intake.writeList with
  | .write _ _ _ _ _ :: _ => decide (s.spool.granted ≠ some .write)
  | _ => false

/-- Port p's fetcher has a request waiting. -/
def State.fetcherWaits (s : State) (p : Port) : Bool :=
  match (s.port p).fetch with
  | some f => !f.granted
  | none => false

/-- A requester has a request waiting. -/
def State.requestWaits (s : State) (r : Requester) : Bool :=
  if h : r.val = 0 then s.writerWaits else s.fetcherWaits ⟨r.val - 1, by omega⟩

/-- The requesters whose requests wait. -/
def State.waiters (s : State) : List Requester := (List.finRange 17).filter s.requestWaits

/-- Requester r's transfer is the granted one. -/
def State.serves (s : State) (r : Requester) : Bool :=
  match s.spool.granted with
  | some .write => decide (r.val = 0)
  | some (.fetch p _) => decide (r.val = p.val + 1)
  | none => false

/-- The requesters that may be granted spool memory when it is free. A request that waited before the step competes by
rank. One placed in the step by another requester may be taken before or after the completion it comes with (R108;
log 7). The requester whose own transfer has completed has one request at a time, and so asks again only after the
completion (R108, R50, R110): its new request waits while any request waited before. -/
def State.grantable (before s : State) : List Requester :=
  let now := s.waiters
  match now.filter before.requestWaits with
  | [] => now
  | old => now.filter fun r => (before.requestWaits r || !before.serves r)
      && old.all fun o => decide (tget s.spool.ranks r ≤ tget s.spool.ranks o)

/-- Spool memory is granted to a requester. -/
def State.grant (s : State) (r : Requester) : State :=
  if h : r.val = 0 then { s with spool := { s.spool with granted := some .write } }
  else
    let p : Port := ⟨r.val - 1, by omega⟩
    match (s.port p).fetch with
    | some f =>
      ({ s with spool := { s.spool with granted := some (.fetch p f.block) } } : State).modPort p fun x =>
        { x with fetch := some { f with granted := true } }
    | none => s

/-- A grant is made when spool memory is free and a request waits (R108). -/
def State.arbitrate (before s : State) : State :=
  if s.spool.granted = none then
    let c := s.pickOne (State.grantable before s)
    match c.1 with
    | some r => c.2.grant r
    | none => s
  else s

/-! ## The standby timer (R88) -/

/-- Port p is idle: READY, no claim, no command outstanding; the ports have examined their queues. -/
def State.idle (s : State) (p : Port) : Bool :=
  decide ((s.port p).state = .ready) && (s.claim p).isNone && (s.port p).outstanding.isNone

/-- The load of the standby timer: none when the delay is 0 (R77, R88). -/
def PortEntry.standbyLoad (e : PortEntry) : Option Nat :=
  if e.standbyDelay = 0 then none else some (Config.minutes e.standbyDelay)

/-- Port p's standby timer: loaded at the event that makes the port idle, stopped when it is not idle (R88). -/
def State.settleStandby (before s : State) (p : Port) : State :=
  if s.idle p then
    (if before.idle p then s else s.modPort p fun r => { r with standbyTimer := (s.entry p).standbyLoad })
  else if (s.port p).standbyTimer.isSome then s.modPort p fun r => { r with standbyTimer := none }
  else s

/-! ## The front frame and the stall (R44, R45, R56, R57) -/

/-- The receiving job that a frame names, by R45: its slot and its record. -/
def State.receiverOf (s : State) (f : Frame) : Option (JobSlot × Job) :=
  match s.findPair f.station f.tag with
  | none => none
  | some j =>
    match s.live j with
    | none => none
    | some r => if r.intake = .receiving then some (j, r) else none

/-- The intake slot record of job j; a job without one has no open sheet. -/
def State.placeOf (s : State) (j : JobSlot) : IntakeSlot :=
  match s.intakeSlotOf j with
  | some i => (tget s.intake.slots i).getD ⟨j, none, 0, 0⟩
  | none => ⟨j, none, 0, 0⟩

/-- A DATA payload of n bytes needs a new block (R49): it opens a sheet, or exceeds the room of the tail block. -/
def IntakeSlot.needsBlock (x : IntakeSlot) (n : Nat) : Bool :=
  decide (1 ≤ n) && (x.openSheet.isNone || decide (blockSize - x.tailOffset < n))

/-- A DATA payload of n bytes asks for a block beyond the 65,535 of one sheet (R49). -/
def IntakeSlot.beyond (x : IntakeSlot) (n : Nat) : Bool :=
  x.openSheet.isSome && decide (blockSize - x.tailOffset < n) && decide (x.sheetBlocks = 65535)

/-- A MARK's values, when it passes the declared-needs check (R51). -/
def markValues (r : Job) (payload : List Byte) : Option (SideMode × SideMode × Media) :=
  match decodeMark payload with
  | some (s1, s2, m) => if markAllowed r s1 s2 m then some (s1, s2, m) else none
  | none => none

/-- The receiving job whose frame at the front needs a block: what stalls the intake unit when the pool is empty
(R44, R56). DEDUCED: a DATA frame beyond the 65,535 blocks of one sheet breaks its job and needs none (log 16). -/
def State.blockWanted (s : State) : Option JobSlot :=
  match s.link.intakeBuf with
  | [] => none
  | f :: _ =>
    match s.receiverOf f with
    | none => none
    | some (j, r) =>
      if r.expected = some f.seq then
        match f.kind with
        | .dataK =>
          if (s.placeOf j).needsBlock f.payload.length && !(s.placeOf j).beyond f.payload.length then some j else none
        | .markK =>
          if (markValues r f.payload).isSome && (s.placeOf j).openSheet.isNone then some j else none
        | _ => none
      else none

/-- The stall follows its condition: it begins, with its timer loaded, when the front frame needs a block and the pool
is empty, and ends when that no longer holds (R56, R57). -/
def State.settleStall (s : State) : State :=
  match (if s.spool.pool.isEmpty then s.blockWanted else none) with
  | some j =>
    if s.intake.stalled = some j then s
    else { s with intake := { s.intake with
      stalled := some j, stallTimer := some (Config.seconds s.control.settings.stallLimit) } }
  | none =>
    { s with intake := { s.intake with stalled := none, stallTimer := none } }

/-! ## The transmitter (R41, R168, R169) -/

/-- The payload of a notice: its kind, the stamp, the kind's fields (12.4). -/
def noticeHead (kind : Nat) (clock : Full) : List Byte := be 1 kind ++ be 4 clock.toNat

/-- The fields of an ALERT notice (12.4). -/
def AlertRec.wire (r : AlertRec) (p : Port) (tick : Nat) : List Byte :=
  be 1 p.val ++ [r.state.code]
    ++ [match r.kind with | some k => k.code | none => Config.absentByte tick 7]
    ++ [match r.location with | some l => l.code | none => 0]
    ++ be 1 ((if r.job.isSome then 1 else 0) + (if r.position.isSome then 2 else 0))
    ++ (match r.position with
        | some (c, n) => be 2 c ++ be 2 n
        | none => absentBytes tick 10 4)
    ++ be 1 r.occurrences ++ be 4 r.raised.toNat

/-- The fields of a JOB-END notice (R167, 12.4). -/
def Job.endWire (r : Job) (j : JobSlot) (tick : Nat) : List Byte :=
  be 1 j.val
    ++ [match r.outcome with | some o => o.code | none => Config.absentByte tick 6]
    ++ [match r.outcome, r.cancel with
        | some .done, _ => 0
        | _, some c => c.code
        | _, none => 0]
    ++ [match r.intake.reason with | some b => b.code | none => 0]
    ++ be 2 r.copies ++ be 2 r.copiesDone ++ be 4 r.delivered ++ be 4 r.charged

/-- The state with a frame in the transmitter. -/
def State.send (s : State) (f : OutFrame) : State := { s with link := { s.link with tx := some f } }

/-- The lowest-numbered port whose alert record is due. -/
def State.dueAlert (s : State) : Option Port := allPorts.find? fun p => (s.alert p).due

/-- The ALERT notice of port p is taken (R158, R169). -/
def State.takeAlert (s : State) (p : Port) : State :=
  let r := s.alert p
  let job := r.job.getD (0, 0)
  ((s.modAlert p fun r => r.sent s.control.settings.alertRepeat).send
    { kind := .noticeK, station := job.1, tag := job.2, request := 0,
      payload := noticeHead 1 s.control.clock ++ r.wire p s.freeTick }).bumpTick

/-- The JOB-END notice of the front of the ended list is taken: the slot is freed (R167, R10). -/
def State.takeJobEnd (s : State) (j : JobSlot) (r : Job) : State :=
  (({ s with jobs := { s.jobs with recs := tset s.jobs.recs j none, ended := s.jobs.ended.tail } } : State).send
    { kind := .noticeK, station := r.station, tag := r.tag, request := 0,
      payload := noticeHead 2 s.control.clock ++ r.endWire j s.freeTick }).bumpTick

/-- The ACCOUNT notice of an account is taken: its entry leaves the set (R165). -/
def State.takeAccount (s : State) (a : Nat) (e : AccountEvents) : State :=
  let credit := (s.account (Fin.ofNat 256 a)).reported
  ({ s with notices := { s.notices with events := s.notices.events.tail } } : State).send
    { kind := .noticeK, station := 0, tag := 0, request := 0,
      payload := noticeHead 3 s.control.clock ++ be 1 a
        ++ be 1 ((if e.low then 1 else 0) + (if e.stop then 2 else 0)) ++ be 4 credit }

/-- The METER notice of an account is taken: its entry leaves the set (R166). -/
def State.takeMeter (s : State) (a : Nat) (e : MeterReport) : State :=
  ({ s with notices := { s.notices with reports := s.notices.reports.tail } } : State).send
    { kind := .noticeK, station := 0, tag := 0, request := 0,
      payload := noticeHead 4 s.control.clock ++ be 1 a ++ be 4 e.sheets ++ be 4 e.units ++ be 1 e.periods }

/-- METER, the last kind in the order of R168. -/
def State.noticeMeter (s : State) : State :=
  match s.notices.mask.meter, s.notices.reports with
  | true, (a, e) :: _ => s.takeMeter a e
  | _, _ => s

/-- ACCOUNT, or a kind after it (R168). -/
def State.noticeAccount (s : State) : State :=
  match s.notices.mask.account, s.notices.events with
  | true, (a, e) :: _ => s.takeAccount a e
  | _, _ => s.noticeMeter

/-- The slot and record that a JOB-END notice reports now. -/
def State.dueJobEnd (s : State) : Option (JobSlot × Job) :=
  match s.notices.mask.jobEnd, s.jobs.ended with
  | true, j :: _ => (s.slot j).map fun r => (j, r)
  | _, _ => none

/-- The notice of R168, when one is due: ALERT, JOB-END, ACCOUNT, METER. -/
def State.sendNotice (s : State) : State :=
  match (if s.notices.mask.alert then s.dueAlert else none) with
  | some p => s.takeAlert p
  | none =>
    match s.dueJobEnd with
    | some (j, r) => s.takeJobEnd j r
    | none => s.noticeAccount

/-- The pending FLOW frame is taken: it carries the flow target (R34). -/
def State.sendFlow (s : State) : State :=
  ({ s with link := { s.link with lastFlow := some s.link.target } } : State).send
    { kind := .flowK, station := 0, tag := 0, request := 0, payload := [s.link.target.code] }

/-- The reply at the front of the queue is taken (R40). -/
def State.sendReply (s : State) (r : Reply) : State :=
  ({ s with link := { s.link with replies := s.link.replies.tail } } : State).send
    { kind := .replyK, station := r.station, tag := r.tag, request := r.request, payload := r.payload }

/-- The transmitter's choice (R41): while UP and free, a pending FLOW, else the oldest reply, else a notice. -/
def State.transmit (s : State) : State :=
  if s.link.state = .up ∧ s.link.tx = none then
    if s.flowPending then s.sendFlow
    else match s.link.replies with
      | r :: _ => s.sendReply r
      | [] => s.sendNotice
  else s

/-! ## The end of a step -/

/-- The end of a step that changes neither jobs nor ports: the stall and the transmitter. -/
def State.linkClosing (s : State) : State := s.settleStall.transmit

/-- The port side of the end of a step. -/
def State.settlePorts (before s : State) : State := State.actPorts 16 (State.grantLocks before s)

/-- The spool side of the end of a step. -/
def State.settleSpool (before s : State) : State := State.arbitrate before (allPorts.foldl State.servePort s)

/-- The end of a step whose state before was `before`. -/
def State.closing (before s : State) : State :=
  (allPorts.foldl (State.settleStandby before) (State.settleSpool before (State.settlePorts before s))).linkClosing

end Sys2Proof.Machine
end

