-- ==== Sys2Proof/Machine/PortStates.lean ====
section
/-! DEFINITION. The port state machine's shared operations (section 5.5): entering READY, STANDBY, FAULTED, ABSENT and
OFFLINE, displacement (R70), NO-ANSWER (R93), the taking of an identity (R86, R71), of a sense result (R90, R92) and of
a refusal (R80), and the stepping of a run's exits and result (R113 to R117). -/

namespace Sys2Proof.Machine

/-! ## Entering a state -/

/-- The port record with every timer stopped (R93, R94, R95). -/
def PortRec.stopTimers (r : PortRec) : PortRec :=
  { r with
    answerTimer := none, endTimer := none, standbyTimer := none, warmTimer := none, warmLimitTimer := none,
    senseRetryTimer := none, faultPollTimer := none, absentProbeTimer := none, gapTimer := none }

/-- The port record with the timers of R84, R90 and R92 stopped: those that end with the state that started them. -/
def PortRec.leaveState (r : PortRec) (state : PortState) : PortRec :=
  { r with
    state := state, endTimer := none, warmTimer := none, warmLimitTimer := none, senseRetryTimer := none,
    faultPollTimer := none }

/-- Port p enters READY or STANDBY and reports a condition clear (R157); the rest depth becomes absent where the rule
that enters the state says so. -/
def State.enterService (s : State) (p : Port) (state : PortState) (restDepth : Option RestMode) : State :=
  (s.modPort p fun r => { r.leaveState state with restDepth := restDepth }).reportClear p

/-- Port p enters FAULTED and the fault-poll timer starts (R92). -/
def State.enterFaulted (s : State) (p : Port) : State :=
  s.modPort p fun r =>
    { r.leaveState .faulted with faultPollTimer := some (Config.seconds s.control.settings.faultPoll) }

/-- The binder empties the queue of a port that has entered ABSENT or OFFLINE (R70): the claim is released and its job
ends if R8 allows, and the rest go to the front of the unbound list. The entries so freed start a re-examination; a
queue that is empty starts none (R68; the end of the claimed job starts its own). -/
def State.displace (s : State) (p : Port) : State :=
  let s1 := s.releaseClaim p
  let s2 := match s.claim p with
    | some j => s1.tryEnd j
    | none => s1
  if s2.queue p = [] then s2 else (s2.toUnboundFront (s2.queue p)).reexamine

/-- Port p enters ABSENT: the absent-probe timer starts and the queue is displaced (R87, R70). -/
def State.enterAbsent (s : State) (p : Port) : State :=
  (s.modPort p fun r =>
    { r.leaveState .absent with
      absentProbeTimer := some (Config.seconds s.control.settings.absentProbe) }).displace p

/-- Port p enters OFFLINE: offline pending becomes no, no command and no timer is left, the queue is displaced
(R94, R70). -/
def State.enterOffline (s : State) (p : Port) : State :=
  (s.modPort p fun r =>
    { r.stopTimers with state := .offline, offlinePending := false, outstanding := none }).displace p

/-- Port p enters PROBING and sends PROBE (R85, R87, R94, R95, R96). -/
def State.startProbe (s : State) (p : Port) : State :=
  (s.modPort p fun r => { r with state := .probing, absentProbeTimer := none }).sendCommand p .probe .probe

/-! ## NO-ANSWER (R93) -/

/-- The position of the oldest in-flight entry (R153). -/
def PortRec.oldestPos (r : PortRec) : Option (Nat × Nat) := r.inFlight.head?.map fun e => (e.copy, e.sheet)

/-- NO-ANSWER is declared for port p's command or run (R86, R93). -/
def State.noAnswer (s : State) (p : Port) : State :=
  if (s.port p).state = .probing then (s.modPort p PortRec.answered).enterAbsent p
  else
    let s1 := (s.raise p .noAnswer none (s.port p).oldestPos).modPort p PortRec.answered
    let s2 := if (s.port p).runOpen then s1.abandonRun p else s1
    let s3 := s2.modPort p PortRec.stopTimers
    if (s.port p).offlinePending then s3.enterOffline p else s3.enterAbsent p

/-! ## Identity and sense results -/

/-- The jobs of port p's queue that a new identity no longer covers (R71). -/
def State.uncovered (s : State) (p : Port) (i : Identity) : List JobSlot :=
  (s.queue p).filter fun j =>
    match s.slot j with
    | some r => !identityFits i (s.entry p) r
    | none => false

/-- A valid identity result is taken in PROBING (R86, R71). -/
def State.takeIdentity (s : State) (p : Port) (i : Identity) (resting : Bool) : State :=
  let s1 := s.modPort p fun r => { r.answered with identity := some i }
  let s2 := if resting then s1.enterService p .standby none else s1.enterService p .ready (s.port p).restDepth
  (s2.toUnboundFront (s2.uncovered p i)).reexamine

/-- A sense result is taken: it acts on a port in WAKING (R90) or FAULTED (R92), and otherwise only ends the SENSE
(R79). -/
def State.takeSense (s : State) (p : Port) (ready resting : Bool) (c : Condition) : State :=
  let s1 := s.modPort p PortRec.answered
  match (s.port p).state with
  | .waking =>
    if ready then s1.enterService p .ready none
    else match c.alert with
      | none => s1.modPort p fun r => { r with senseRetryTimer := some Config.senseRetry }
      | some (kind, loc) => (s1.raise p kind loc none).enterFaulted p
  | .faulted =>
    if ready then s1.enterService p .ready none
    else if resting = true ∧ c = .noCondition then s1.enterService p .standby none
    else s1.faultReport p c
  | _ => s1

/-! ## The answer to RUN (R91, R102) -/

/-- TAKEN is taken for a RUN: execution begins, and the port sends END or makes its first feed attempt (R102). The held
flag and cancel requested are read as they stand at TAKEN: a job that was held and released again while the answer was
outstanding is fed (DESIGN CHOICE, log 35). -/
def State.beginExecution (s : State) (p : Port) : State :=
  let s1 := s.modPort p fun r => { r with executing := true, answerTimer := none }
  let stop := match s.claimedJob p with
    | some r => r.held || r.cancel.isSome
    | none => false
  if stop || (s.port p).offlinePending then s1.sendEnd p else (s1.endIfDry p).attemptFeed p

/-- REFUSE is taken for a RUN: an ENGINE-FAULT alert, the data path closed, FAULTED or OFFLINE, and the job's end if R8
allows (R91, R102, R117). -/
def State.refuseRun (s : State) (p : Port) : State :=
  let s1 := ((s.raise p .engineFault none none).modPort p PortRec.answered).abandonRun p
  let s2 := if (s.port p).offlinePending then s1.enterOffline p else s1.enterFaulted p
  match s.claim p with
  | some j => s2.tryEnd j
  | none => s2

/-! ## Exits (R113 to R115) -/

/-- Entries are resolved SPOILED, oldest first. -/
def State.spoilList (s : State) (p : Port) (es : List InFlight) : State := es.foldl (fun s e => s.resolveSpoiled p e) s

/-- An entry leaves the path with a disposition taken from its EXIT: good exits counts a GOOD one (R114), and a SPOILED
one in RUNNING sends HALT (R115). -/
def State.exitEntry (s : State) (p : Port) (e : InFlight) (d : Disposition) : State :=
  match d with
  | .good => (s.resolveGood p e).modPort p fun r => { r with goodExits := min 65535 (r.goodExits + 1) }
  | .spoiled =>
    let s1 := s.resolveSpoiled p e
    if (s.port p).state = .running then s1.sendHalt p else s1

/-- The EXIT of an entry: older entries are first spoiled as if their own EXIT SPOILED had been taken (R113). -/
def State.exitAt (s : State) (p : Port) (older : List InFlight) (e : InFlight) (d : Disposition) : State :=
  (older.foldl (fun s x => s.exitEntry p x .spoiled) s).exitEntry p e d

/-! ## The result (R116, R117) -/

/-- The position that a kind raised by a RESULT names: the entry of the last tag, else the oldest entry (R153). -/
def PortRec.resultPos (r : PortRec) (last : Option Byte) : Option (Nat × Nat) :=
  match last with
  | none => r.oldestPos
  | some t =>
    match r.inFlight.find? fun e => decide (e.tag = t) with
    | some e => some (e.copy, e.sheet)
    | none => r.oldestPos

/-- Catch-up: the oldest entries are resolved GOOD up to the good count, or COUNT-MISMATCH is raised (R116). -/
def State.catchUp (s : State) (p : Port) (good : Nat) : State :=
  if good < (s.port p).goodExits then s.raiseMismatch p
  else ((s.port p).inFlight.take (good - (s.port p).goodExits)).foldl (fun s e => s.resolveGood p e) s

/-- The alert that a result raises (R91, R152). -/
def resultAlert (cls : ResultClass) (c : Condition) : Option (AlertKind × Option JamLocation) :=
  match cls with
  | .complete => none
  | _ => c.alert

/-- A port's record at the end of its run's data path by a RESULT: the run is no longer open, the RUN is no longer
outstanding, the end timer stops, an UNDERRUN is counted (R84, R91, R117). -/
def PortRec.endRun (r : PortRec) (c : Condition) : PortRec :=
  { r.closePath.answered with
    runOpen := false
    executing := false
    endTimer := none
    underruns := if c = .underrun then r.underruns + 1 else r.underruns }

/-- A RESULT is taken (R116, R117): catch-up, spoilage, data path, rewind, port state, job. -/
def State.takeResult (s : State) (p : Port) (cls : ResultClass) (c : Condition) (good : Nat) (last : Option Byte) :
    State :=
  let pos := (s.port p).resultPos last
  let s1 := ((s.catchUp p good).spoilAll p).modPort p fun r => r.endRun c
  let s2 := match s.claim p with
    | some j => s1.rewind j
    | none => s1
  let s3 := match resultAlert cls c with
    | some (kind, loc) => s2.raise p kind loc pos
    | none => s2
  let s4 :=
    if (s.port p).offlinePending then s3.enterOffline p
    else match resultAlert cls c with
      | some _ => s3.enterFaulted p
      | none => s3.enterService p .ready (s.port p).restDepth
  match s.claim p with
  | some j => s4.tryEnd j
  | none => s4

end Sys2Proof.Machine
end

