-- ==== Sys2Proof/Machine/Requests.lean ====
section
/-! DEFINITION. The execution of a CONTROL frame (R32, R172) and the meanings of the job requests (11.4), the queue and route
requests (chapter 4), and of a frame with no known request code. -/

namespace Sys2Proof.Machine

/-! ## The execution of a CONTROL frame (R32, R172, R183) -/

/-- What a request that passed tests 1 and 2 of R172 answers: its code, the data from offset 2, and the state. -/
structure Answer where
  code  : ReplyCode
  data  : List Byte
  state : State

/-- An answer without data. -/
def answer (c : ReplyCode) (s : State) : Answer := ⟨c, [], s⟩

/-- The front frame of the control buffer, when the reply queue has room for its reply and it carries this request
code (R32). -/
def State.requestFront (s : State) (code : Nat) : Option Frame :=
  match s.link.controlBuf with
  | f :: _ => if requestCode f.payload = code ∧ s.link.replies.length < 4 then some f else none
  | [] => none

/-- The front frame leaves the control buffer (R32). -/
def State.takeControl (s : State) : State := { s with link := { s.link with controlBuf := s.link.controlBuf.tail } }

/-- The reply to a CONTROL frame (R181, 12.4). -/
def controlReply (f : Frame) (code : ReplyCode) (request : Nat) (data : List Byte) : Reply where
  station := f.station
  tag := 0
  request := f.request
  payload := code.code :: BitVec.ofNat 8 request :: data

/-- The frame's station holds MANAGE (R38, R172 test 1). -/
def State.permits (s : State) (f : Frame) : Bool := (tget s.control.stations f.station).manage

/-- A request is executed as one event: the frame leaves the buffer, tests 1 and 2 of R172 are made, the request's own
body runs, and its one reply is placed (R32, R172). -/
def State.execute (s : State) (request : Nat) (f : Frame) (body : List Byte → State → Answer) : State :=
  if s.permits f then
    if requestForm f.payload then
      let a := body f.payload.tail s.takeControl
      a.state.placeReply (controlReply f a.code request a.data)
    else s.takeControl.placeReply (controlReply f .badRequest request [])
  else s.takeControl.placeReply (controlReply f .notPermitted request [])

/-- A request that may change jobs or ports. -/
def State.runRequest (s : State) (request : Nat) (body : List Byte → State → Answer) :
    Host.Outcome State Fault Refusal :=
  match s.requestFront request with
  | some f => .next (State.closing s (s.execute request f body))
  | none => .next s

/-- A request that changes neither jobs nor ports. -/
def State.runQuiet (s : State) (request : Nat) (body : List Byte → State → Answer) :
    Host.Outcome State Fault Refusal :=
  match s.requestFront request with
  | some f => .next (s.execute request f body).linkClosing
  | none => .next s

/-- UNKNOWN_REQUEST: a CONTROL frame whose code is 0 or above 42 (R172, R183); the reply carries request code 0. -/
def execUnknownRequest (s : State) : Host.Outcome State Fault Refusal :=
  match s.link.controlBuf with
  | f :: _ =>
    if requestLength (requestCode f.payload) = none ∧ s.link.replies.length < 4 then
      .next (s.takeControl.placeReply
        (controlReply f (if s.permits f then .badRequest else .notPermitted) 0 [])).linkClosing
    else .next s
  | [] => .next s

/-! ## Naming a job (R173) -/

/-- Tests 3 and 4 of R172 for a job reference; a JOB QUERY by slot also finds a slot on the ended list. -/
def State.namedJob (s : State) (query : Bool) (ref : JobRef) : Except ReplyCode JobSlot :=
  match ref with
  | .slot n =>
    match finOf 128 n.toNat with
    | none => .error .badIndex
    | some j => if (s.live j).isSome || (query && (s.slot j).isSome) then .ok j else .error .noSuchJob
  | .pair station tag =>
    match s.findPair station tag with
    | some j => .ok j
    | none => .error .noSuchJob

/-- A request that names a live job by the first four bytes of its fields. -/
def State.onJob (s : State) (query : Bool) (args : List Byte) (body : JobSlot → Answer) : Answer :=
  match args with
  | form :: a :: b :: c :: _ =>
    match s.namedJob query (jobRef form a b c) with
    | .ok j => body j
    | .error code => answer code s
  | _ => answer .badRequest s

/-! ## JOB QUERY (R176) -/

/-- The job record as JOB QUERY reports it, from offset 2 of the reply (R176, 12.4). -/
def State.jobData (s : State) (r : Job) : List Byte :=
  let t := s.freeTick
  be 1 r.station.val ++ be 2 r.tag.toNat ++ be 1 r.account.val ++ be 1 r.dest.val ++ be 1 r.priority.val
    ++ be 2 r.copies ++ be 1 r.finishing.code ++ r.needs.wire
    ++ [r.intake.code] ++ optional t 15 1 (r.intake.reason.map fun b => [b.code])
    ++ be 2 r.received ++ [r.phase.code]
    ++ optional t 20 1 (r.boundPort.map fun p => be 1 p.val) ++ optional t 22 1 (r.lastPort.map fun p => be 1 p.val)
    ++ [flagByte r.held, flagByte r.creditStopped] ++ optional t 26 1 (r.cancel.map fun c => [c.code])
    ++ posBytes t 28 r.feed.pos ++ posBytes t 32 r.confirm
    ++ be 2 r.copiesDone ++ be 4 r.delivered ++ be 4 r.charged ++ [flagByte r.releaseBehind]
    ++ optional t 47 1 (r.outcome.map fun o => [o.code]) ++ be 3 (s.chain r).length

/-- The answer to JOB QUERY. -/
def doJobQuery (args : List Byte) (s : State) : Answer :=
  s.onJob true args fun j =>
    match s.slot j with
    | some r => ⟨.done, s.jobData r, s.bumpTick⟩
    | none => answer .noSuchJob s

/-- JOB_QUERY (R176). -/
def execJobQuery (s : State) : Host.Outcome State Fault Refusal := s.runQuiet 1 doJobQuery

/-! ## HOLD, RELEASE, CANCEL (R179, R119, R120) -/

/-- HOLD: the held flag becomes yes, and a port that feeds the job sends END (R119). -/
def doHold (args : List Byte) (s : State) : Answer :=
  s.onJob false args fun j =>
    answer .done ((s.modJob j fun r => { r with held := true }).stopFeeding j)

/-- HOLD (R179). -/
def execHold (s : State) : Host.Outcome State Fault Refusal := s.runRequest 2 doHold

/-- RELEASE: the held flag becomes no; the ports act at the end of the step (R119). -/
def doRelease (args : List Byte) (s : State) : Answer :=
  s.onJob false args fun j => answer .done (s.modJob j fun r => { r with held := false })

/-- RELEASE (R179). -/
def execRelease (s : State) : Host.Outcome State Fault Refusal := s.runRequest 3 doRelease

/-- CANCEL: cancel requested is set with reason MANAGEMENT, unless it is set (R6, R7). -/
def doCancel (args : List Byte) (s : State) : Answer :=
  s.onJob false args fun j => answer .done (s.cancelJob j .management)

/-- CANCEL (R179). -/
def execCancel (s : State) : Host.Outcome State Fault Refusal := s.runRequest 4 doCancel

/-! ## MOVE, PRIORITY, PURGE (R73, R74, R23) -/

/-- A job is moved to port p's run queue (R73, order 7). -/
def State.moveJob (s : State) (j : JobSlot) (p : Port) : State :=
  let t := ((s.leaveQueues j).leaveUnbound j).bindTo j p
  if s.inQueue j then t.reexamine else t

/-- The tests 3 to 7 of R73. -/
def State.moveTo (s : State) (j : JobSlot) (r : Job) (p : Port) : Answer :=
  if r.phase = .claimed then answer .started s
  else if r.phase = .queued ∧ r.boundPort = some p then answer .done s
  else if !s.eligible r p then answer .ineligible s
  else if !s.hasRoom p then answer .noRoom s
  else answer .done (s.moveJob j p)

/-- The answer to MOVE. -/
def doMove (args : List Byte) (s : State) : Answer :=
  match args with
  | [_, _, _, _, port] =>
    match finOf 16 port.toNat with
    | none => answer .badIndex s
    | some p =>
      s.onJob false args fun j =>
        match s.slot j with
        | some r => s.moveTo j r p
        | none => answer .noSuchJob s
  | _ => answer .badRequest s

/-- MOVE (R73). -/
def execMove (s : State) : Host.Outcome State Fault Refusal := s.runRequest 5 doMove

/-- Job j's priority is set and its place in its run queue follows (R74). -/
def State.setPriority (s : State) (j : JobSlot) (pri : Fin 4) : State :=
  let s1 := s.modJob j fun r => { r with priority := pri }
  match allPorts.find? fun p => decide (j ∈ s.queue p) with
  | some p => s1.modQueue p fun q => insertBefore s1.queueBefore j (q.filter (· ≠ j))
  | none => s1

/-- The answer to PRIORITY. -/
def doPriority (args : List Byte) (s : State) : Answer :=
  match args with
  | [_, _, _, _, pri] =>
    s.onJob false args fun j =>
      answer (if 3 < pri.toNat then .clamped else .done) (s.setPriority j (clampPriority pri.toNat))
  | _ => answer .badRequest s

/-- PRIORITY (R74). -/
def execPriority (s : State) : Host.Outcome State Fault Refusal := s.runRequest 6 doPriority

/-- Every live job is cancelled with reason PURGE, in ascending slot order (R23). -/
def State.purgeAll (s : State) : State := allSlots.foldl (fun s j => s.cancelJob j .purge) s

/-- The answer to PURGE. -/
def doPurge (_ : List Byte) (s : State) : Answer := answer .done s.purgeAll

/-- PURGE (R23). -/
def execPurge (s : State) : Host.Outcome State Fault Refusal := s.runRequest 7 doPurge

/-! ## Routes and queues (R60, R75) -/

/-- The answer to ROUTE WRITE: the port set is replaced and a re-examination follows (R60, R68). -/
def doRouteWrite (args : List Byte) (s : State) : Answer :=
  match args with
  | [cls, hi, lo] =>
    match finOf 64 cls.toNat with
    | none => answer .badIndex s
    | some c =>
      answer .done
        ({ s with binder := { s.binder with routes := tset s.binder.routes c (halfOf hi lo) } } : State).reexamine
  | _ => answer .badRequest s

/-- ROUTE_WRITE (R60). -/
def execRouteWrite (s : State) : Host.Outcome State Fault Refusal := s.runRequest 8 doRouteWrite

/-- The answer to ROUTE READ. -/
def doRouteRead (args : List Byte) (s : State) : Answer :=
  match args with
  | [cls] =>
    match finOf 64 cls.toNat with
    | none => answer .badIndex s
    | some c => ⟨.done, be 2 (tget s.binder.routes c).toNat, s⟩
  | _ => answer .badRequest s

/-- ROUTE_READ (R60). -/
def execRouteRead (s : State) : Host.Outcome State Fault Refusal := s.runQuiet 9 doRouteRead

/-- A request whose one field is a port (R172 test 3). -/
def onPort (args : List Byte) (s : State) (body : Port → Answer) : Answer :=
  match args with
  | port :: _ =>
    match finOf 16 port.toNat with
    | none => answer .badIndex s
    | some p => body p
  | [] => answer .badRequest s

/-- The answer to QUEUE READ: the run queue, then the claimed job (R75, 12.4). -/
def doQueueRead (args : List Byte) (s : State) : Answer :=
  onPort args s fun p =>
    let q := slotList (s.queue p)
    ⟨.done, q ++ optional s.freeTick (2 + q.length) 1 ((s.claim p).map fun j => be 1 j.val), s.bumpTick⟩

/-- QUEUE_READ (R75). -/
def execQueueRead (s : State) : Host.Outcome State Fault Refusal := s.runQuiet 10 doQueueRead

/-- The answer to UNBOUND READ. -/
def doUnboundRead (_ : List Byte) (s : State) : Answer := ⟨.done, slotList s.binder.unbound, s⟩

/-- UNBOUND_READ (R75). -/
def execUnboundRead (s : State) : Host.Outcome State Fault Refusal := s.runQuiet 11 doUnboundRead

end Sys2Proof.Machine
end

