-- ==== Sys2Proof/Machine/Timers.lean ====
section
/-! DEFINITION. The meanings of the port, alert and meter timers. An expiry is the expiry of a running timer; one that is
stopped does not expire, and the command then leaves the state as it stands (log 1). -/

namespace Sys2Proof.Machine

/-- ANSWER_TIMER_EXPIRY: NO-ANSWER for the outstanding command (R80, R93). -/
def execAnswerTimerExpiry (p : Port) (s : State) : Host.Outcome State Fault Refusal :=
  if (s.port p).answerTimer.isSome then .next (State.closing s (s.noAnswer p)) else .next s

/-- END_TIMER_EXPIRY: NO-ANSWER for the RUN (R84, R93). -/
def execEndTimerExpiry (p : Port) (s : State) : Host.Outcome State Fault Refusal :=
  if (s.port p).endTimer.isSome then .next (State.closing s (s.noAnswer p)) else .next s

/-- STANDBY_TIMER_EXPIRY: REST with the entry's rest mode (R88). -/
def execStandbyTimerExpiry (p : Port) (s : State) : Host.Outcome State Fault Refusal :=
  if (s.port p).standbyTimer.isSome then
    let mode := (s.entry p).restMode
    .next (State.closing s
      ((s.modPort p fun r => { r with standbyTimer := none, restSent := mode }).sendCommand p .rest (.rest mode)))
  else .next s

/-- WARM_TIMER_EXPIRY: SENSE (R90). -/
def execWarmTimerExpiry (p : Port) (s : State) : Host.Outcome State Fault Refusal :=
  if (s.port p).warmTimer.isSome ∧ (s.port p).state = .waking then
    .next (State.closing s ((s.modPort p fun r => { r with warmTimer := none }).sendCommand p .sense .sense))
  else .next s

/-- WARM_LIMIT_TIMER_EXPIRY: FAULTED with WARM-FAIL; an outstanding SENSE stays outstanding (R90). -/
def execWarmLimitTimerExpiry (p : Port) (s : State) : Host.Outcome State Fault Refusal :=
  if (s.port p).warmLimitTimer.isSome ∧ (s.port p).state = .waking then
    .next (State.closing s ((s.raise p .warmFail none none).enterFaulted p))
  else .next s

/-- SENSE_RETRY_TIMER_EXPIRY: SENSE again (R90). -/
def execSenseRetryTimerExpiry (p : Port) (s : State) : Host.Outcome State Fault Refusal :=
  if (s.port p).senseRetryTimer.isSome ∧ (s.port p).state = .waking then
    .next (State.closing s ((s.modPort p fun r => { r with senseRetryTimer := none }).sendCommand p .sense .sense))
  else .next s

/-- FAULT_POLL_TIMER_EXPIRY: SENSE unless a command is outstanding, and the timer restarts (R92). -/
def execFaultPollTimerExpiry (p : Port) (s : State) : Host.Outcome State Fault Refusal :=
  if (s.port p).faultPollTimer.isSome ∧ (s.port p).state = .faulted then
    let s1 := s.modPort p fun r =>
      { r with faultPollTimer := some (Config.seconds s.control.settings.faultPoll) }
    .next (State.closing s (if (s.port p).outstanding = none then s1.sendCommand p .sense .sense else s1))
  else .next s

/-- ABSENT_PROBE_TIMER_EXPIRY: PROBING, and PROBE is sent (R87). -/
def execAbsentProbeTimerExpiry (p : Port) (s : State) : Host.Outcome State Fault Refusal :=
  if (s.port p).absentProbeTimer.isSome ∧ (s.port p).state = .absent then .next (State.closing s (s.startProbe p))
  else .next s

/-- The port record with the transit timer of an entry stopped (R112). -/
def PortRec.stopTransit (r : PortRec) (tag : Byte) : PortRec :=
  { r with inFlight := r.inFlight.map fun e => if e.tag = tag then { e with transit := none } else e }

/-- TRANSIT_TIMER_EXPIRY: TRANSIT is raised with the entry's position, and HALT is sent (R112, R105). -/
def execTransitTimerExpiry (p : Port) (tag : Byte) (s : State) : Host.Outcome State Fault Refusal :=
  match (s.port p).inFlight.find? fun e => decide (e.tag = tag) with
  | none => .next s
  | some e =>
    if e.transit.isSome then
      .next (State.closing s
        (((s.modPort p fun r => r.stopTransit tag).raise p .transit none (some (e.copy, e.sheet))).sendHalt p))
    else .next s

/-- PACING_GAP_TIMER_EXPIRY: a feed attempt (R111, R103). -/
def execPacingGapTimerExpiry (p : Port) (s : State) : Host.Outcome State Fault Refusal :=
  if (s.port p).gapTimer.isSome then
    .next (State.closing s ((s.modPort p fun r => { r with gapTimer := none }).attemptFeed p))
  else .next s

/-- REPEAT_TIMER_EXPIRY: the port's alert record becomes due (R158). -/
def execRepeatTimerExpiry (p : Port) (s : State) : Host.Outcome State Fault Refusal :=
  if (s.alert p).repeatTimer.isSome then
    .next (s.modAlert p fun r => { r with due := true, repeatTimer := none }).linkClosing
  else .next s

/-- A report entry with one period's counts merged in (R148). -/
def MeterReport.merge (r : MeterReport) (sheets units : Nat) : MeterReport where
  sheets := satAdd max32 r.sheets sheets
  units := satAdd max32 r.units units
  periods := min 255 (r.periods + 1)

/-- One account's period is folded into its report entry, when it has sheets (R148). -/
def State.foldPeriod (s : State) (a : Account) : State :=
  let r := s.account a
  if r.periodSheets = 0 then s
  else
    ({ s with notices := { s.notices with
      reports := sput {} a.val ((sget {} a.val s.notices.reports).merge r.periodSheets r.periodUnits)
        s.notices.reports } } : State).modAccount a fun r => { r with periodSheets := 0, periodUnits := 0 }

/-- The load of the meter period timer: none when the period is 0 (R149). -/
def periodLoad (minutes : Nat) : Option Nat := if minutes = 0 then none else some (Config.minutes minutes)

/-- METER_PERIOD_TIMER_EXPIRY: every account's period is folded, in ascending order, and the timer restarts (R148). -/
def execMeterPeriodTimerExpiry (s : State) : Host.Outcome State Fault Refusal :=
  if s.meter.periodTimer.isSome then
    let s1 := (List.finRange 256).foldl State.foldPeriod s
    .next ({ s1 with meter := { s1.meter with
      periodTimer := periodLoad s1.control.settings.meterPeriod } } : State).linkClosing
  else .next s

end Sys2Proof.Machine
end

