-- ==== Sys2Proof/Machine/AccountRequests.lean ====
section
/-! DEFINITION. The meanings of the account, rate, alert, mask, station, settings, clock and status requests (chapters 8 to
11). -/

namespace Sys2Proof.Machine

/-! ## Accounts (R133, R134, R145 to R147, R150) -/

/-- The account after ACCOUNT WRITE's four fields; the write of the threshold arms the low check (R134, R145). -/
def AccountRec.write (r : AccountRec) (isOpen unlimited : Bool) (scale low : Nat) : AccountRec :=
  { r with isOpen := isOpen, unlimited := unlimited, scale := scale, lowThreshold := low, lowArmed := true }

/-- ACCOUNT WRITE past its IN-USE test: the four fields, the clearing of credit-stopped flags, the low check (R134,
R135, R143, R145). -/
def State.writeAccount (s : State) (a : Account) (isOpen unlimited : Bool) (scale low : Nat) : State :=
  (((s.modAccount a fun r => r.write isOpen unlimited scale low).clearStops a).lowCheck a)

/-- The answer to ACCOUNT WRITE: IN-USE when the unlimited flag would change with sheets in flight (R134). -/
def doAccountWrite (args : List Byte) (s : State) : Answer :=
  match args with
  | [acc, state, unlimited, scale, t3, t2, t1, t0] =>
    let a := index256 acc
    if (s.account a).unlimited ≠ yesNo unlimited ∧ 0 < (s.account a).inFlight then answer .inUse s
    else answer .done (s.writeAccount a (yesNo state) (yesNo unlimited) scale.toNat (beNat [t3, t2, t1, t0]))
  | _ => answer .badRequest s

/-- ACCOUNT_WRITE (R133, R134). -/
def execAccountWrite (s : State) : Host.Outcome State Fault Refusal := s.runRequest 26 doAccountWrite

/-- An account's balance is set; for a limited account a change makes the low check and a rise clears credit-stopped
flags (R143, R144, R146, R147). -/
def State.setBalance (s : State) (a : Account) (balance : Nat) : State :=
  let r := s.account a
  let s1 := s.modAccount a fun r => { r with balance := balance }
  if r.unlimited = true ∨ balance = r.balance then s1
  else
    let s2 := s1.lowCheck a
    if r.balance < balance then s2.clearStops a else s2

/-- The answer to ACCOUNT CREDIT: the amount is added, saturating (R146). -/
def doAccountCredit (args : List Byte) (s : State) : Answer :=
  match args with
  | [acc, n3, n2, n1, n0] =>
    let a := index256 acc
    let sum := (s.account a).balance + beNat [n3, n2, n1, n0]
    answer (if max32 < sum then .clamped else .done) (s.setBalance a (min max32 sum))
  | _ => answer .badRequest s

/-- ACCOUNT_CREDIT (R146). -/
def execAccountCredit (s : State) : Host.Outcome State Fault Refusal := s.runRequest 27 doAccountCredit

/-- The answer to ACCOUNT SET BALANCE: a value below reserved is stored as reserved (R147). -/
def doAccountSetBalance (args : List Byte) (s : State) : Answer :=
  match args with
  | [acc, n3, n2, n1, n0] =>
    let a := index256 acc
    let value := beNat [n3, n2, n1, n0]
    answer (if value < (s.account a).reserved then .clamped else .done)
      (s.setBalance a (max (s.account a).reserved value))
  | _ => answer .badRequest s

/-- ACCOUNT_SET_BALANCE (R147). -/
def execAccountSetBalance (s : State) : Host.Outcome State Fault Refusal := s.runRequest 28 doAccountSetBalance

/-- An account record and its available credit, as ACCOUNT READ reports them (R150). -/
def AccountRec.wire (r : AccountRec) : List Byte :=
  [flagByte r.isOpen, flagByte r.unlimited] ++ be 1 r.scale ++ be 4 r.balance ++ be 4 r.reserved ++ be 1 r.inFlight
    ++ be 4 r.lowThreshold ++ [flagByte r.lowArmed] ++ be 4 r.chargedTotal ++ be 4 r.periodSheets
    ++ be 4 r.periodUnits ++ be 4 r.reported

/-- The answer to ACCOUNT READ. -/
def doAccountRead (args : List Byte) (s : State) : Answer :=
  match args with
  | [acc] => ⟨.done, (s.account (index256 acc)).wire, s⟩
  | _ => answer .badRequest s

/-- ACCOUNT_READ (R150). -/
def execAccountRead (s : State) : Host.Outcome State Fault Refusal := s.runQuiet 29 doAccountRead

/-! ## Rates (R135) -/

/-- A rate value is stored at most 4,095 (R135). -/
def clampRate (n : Nat) : Nat := min 4095 n

/-- The answer to RATE WRITE; a rate write clears the credit-stopped flag of every live job (R135, R143). -/
def doRateWrite (args : List Byte) (s : State) : Answer :=
  match args with
  | [cls, m1, m0, c1, c0] =>
    match finOf 16 cls.toNat with
    | none => answer .badIndex s
    | some c =>
      let mono := m1.toNat * 256 + m0.toNat
      let colour := c1.toNat * 256 + c0.toNat
      answer (if 4095 < mono ∨ 4095 < colour then .clamped else .done)
        ({ s with meter := { s.meter with
          rates := tset s.meter.rates c ⟨clampRate mono, clampRate colour⟩ } } : State).clearAllStops
  | _ => answer .badRequest s

/-- RATE_WRITE (R135). -/
def execRateWrite (s : State) : Host.Outcome State Fault Refusal := s.runRequest 30 doRateWrite

/-- The answer to RATE READ. -/
def doRateRead (args : List Byte) (s : State) : Answer :=
  match args with
  | [cls] =>
    match finOf 16 cls.toNat with
    | none => answer .badIndex s
    | some c => ⟨.done, be 2 (tget s.meter.rates c).mono ++ be 2 (tget s.meter.rates c).colour, s⟩
  | _ => answer .badRequest s

/-- RATE_READ (R150). -/
def execRateRead (s : State) : Host.Outcome State Fault Refusal := s.runQuiet 31 doRateRead

/-! ## Alerts and the mask (R159, R163, R170) -/

/-- A record acknowledged (R159). -/
def AlertRec.acked (r : AlertRec) : AlertRec :=
  match r.state with
  | .activeUnacked => { r with state := .activeAcked, due := false, repeatTimer := none }
  | .clearedUnacked => { r with state := .idle, due := false, repeatTimer := none }
  | .activeAcked | .idle => r

/-- The answer to ALERT ACK: STALE unless the record is unacked and the count is its own (R159). -/
def doAlertAck (args : List Byte) (s : State) : Answer :=
  match args with
  | [port, count] =>
    onPort [port] s fun p =>
      if (s.alert p).state.unacked ∧ count.toNat = (s.alert p).occurrences then
        answer .done (s.modAlert p AlertRec.acked)
      else answer .stale s
  | _ => answer .badRequest s

/-- ALERT_ACK (R159). -/
def execAlertAck (s : State) : Host.Outcome State Fault Refusal := s.runQuiet 32 doAlertAck

/-- An alert record as ALERT READ reports it, from offset 2 of the reply (R163). -/
def AlertRec.readWire (r : AlertRec) (t : Nat) : List Byte :=
  [r.state.code] ++ optional t 3 1 (r.kind.map fun k => [k.code]) ++ optional t 5 1 (r.location.map fun l => [l.code])
    ++ optional t 7 3 (r.job.map fun j => be 1 j.1.val ++ be 2 j.2.toNat)
    ++ optional t 11 4 (r.position.map fun x => be 2 x.1 ++ be 2 x.2)
    ++ be 1 r.occurrences ++ be 4 r.raised.toNat ++ [flagByte r.due]

/-- The answer to ALERT READ. -/
def doAlertRead (args : List Byte) (s : State) : Answer :=
  onPort args s fun p => ⟨.done, (s.alert p).readWire s.freeTick, s.bumpTick⟩

/-- ALERT_READ (R163). -/
def execAlertRead (s : State) : Host.Outcome State Fault Refusal := s.runQuiet 33 doAlertRead

/-- The mask that a byte of enables spells (R182). -/
def maskOf (b : Byte) : NoticeMask := ⟨b.getLsbD 0, b.getLsbD 1, b.getLsbD 2, b.getLsbD 3⟩

/-- The byte of a mask. -/
def NoticeMask.wire (m : NoticeMask) : List Byte :=
  be 1 ((if m.alert then 1 else 0) + (if m.jobEnd then 2 else 0) + (if m.account then 4 else 0)
    + (if m.meter then 8 else 0))

/-- The answer to MASK WRITE. -/
def doMaskWrite (args : List Byte) (s : State) : Answer :=
  match args with
  | [b] => answer .done { s with notices := { s.notices with mask := maskOf b } }
  | _ => answer .badRequest s

/-- MASK_WRITE (R170). -/
def execMaskWrite (s : State) : Host.Outcome State Fault Refusal := s.runQuiet 34 doMaskWrite

/-- The answer to MASK READ. -/
def doMaskRead (_ : List Byte) (s : State) : Answer := ⟨.done, s.notices.mask.wire, s⟩

/-- MASK_READ (R170). -/
def execMaskRead (s : State) : Host.Outcome State Fault Refusal := s.runQuiet 35 doMaskRead

/-! ## Stations (R36, R38) -/

/-- The permissions of a byte (R182). -/
def permissionsOf (b : Byte) : Permissions := ⟨b.getLsbD 0, b.getLsbD 1⟩

/-- The station table with a range of entries replaced (R175). -/
def writeStations (v : Vector Permissions 256) (first count : Nat) (x : Permissions) : Vector Permissions 256 :=
  Vector.ofFn fun i => if first ≤ i.val ∧ i.val < first + count then x else tget v i

/-- Some station holds MANAGE (R38). -/
def someManager (v : Vector Permissions 256) : Bool := v.toList.any fun x => x.manage

/-- The answer to STATION WRITE: BAD-INDEX past station 255, IN-USE when no station would hold MANAGE (R38, R175). -/
def doStationWrite (args : List Byte) (s : State) : Answer :=
  match args with
  | [first, c1, c0, perm] =>
    let count := c1.toNat * 256 + c0.toNat
    let v := writeStations s.control.stations first.toNat count (permissionsOf perm)
    if 256 < first.toNat + count then answer .badIndex s
    else if someManager v then answer .done { s with control := { s.control with stations := v } }
    else answer .inUse s
  | _ => answer .badRequest s

/-- STATION_WRITE (R38). -/
def execStationWrite (s : State) : Host.Outcome State Fault Refusal := s.runQuiet 36 doStationWrite

/-- The answer to STATION READ. -/
def doStationRead (args : List Byte) (s : State) : Answer :=
  match args with
  | [st] =>
    let x := tget s.control.stations (index256 st)
    ⟨.done, be 1 ((if x.submit then 1 else 0) + (if x.manage then 2 else 0)), s⟩
  | _ => answer .badRequest s

/-- STATION_READ (R36). -/
def execStationRead (s : State) : Host.Outcome State Fault Refusal := s.runQuiet 37 doStationRead

/-! ## Settings, clock, status (R177, R178, R180) -/

/-- One setting of a SETTINGS WRITE: the value clamped to its range when its select bit is set. -/
def setting (select : Byte) (k lo hi value old : Nat) : Nat := if selected select k then clamp lo hi value else old

/-- A setting's select bit is set and its value lies outside its range. -/
def settingClamps (select : Byte) (k lo hi value : Nat) : Bool :=
  selected select k && decide (clamp lo hi value ≠ value)

/-- SETTINGS WRITE is carried out: a write of the meter period stops and restarts its timer (R149, R177). -/
def State.writeSettings (s : State) (select : Byte) (v : Settings) : State :=
  let o := s.control.settings
  let n : Settings :=
    { alertRepeat := setting select 0 1 255 v.alertRepeat o.alertRepeat
      meterPeriod := setting select 1 0 1440 v.meterPeriod o.meterPeriod
      stallLimit := setting select 2 1 255 v.stallLimit o.stallLimit
      absentProbe := setting select 3 1 255 v.absentProbe o.absentProbe
      faultPoll := setting select 4 1 255 v.faultPoll o.faultPoll
      warmLimit := setting select 5 10 600 v.warmLimit o.warmLimit }
  let s1 : State := { s with control := { s.control with settings := n } }
  if selected select 1 then { s1 with meter := { s1.meter with periodTimer := periodLoad n.meterPeriod } } else s1

/-- Some written setting was stored at an end of its range (R177). -/
def settingsClamped (select : Byte) (v : Settings) : Bool :=
  settingClamps select 0 1 255 v.alertRepeat || settingClamps select 1 0 1440 v.meterPeriod
    || settingClamps select 2 1 255 v.stallLimit || settingClamps select 3 1 255 v.absentProbe
    || settingClamps select 4 1 255 v.faultPoll || settingClamps select 5 10 600 v.warmLimit

/-- The answer to SETTINGS WRITE. -/
def doSettingsWrite (args : List Byte) (s : State) : Answer :=
  match args with
  | [select, rep, m1, m0, stall, absent, poll, w1, w0] =>
    let v : Settings := ⟨rep.toNat, m1.toNat * 256 + m0.toNat, stall.toNat, absent.toNat, poll.toNat,
      w1.toNat * 256 + w0.toNat⟩
    answer (if settingsClamped select v then .clamped else .done) (s.writeSettings select v)
  | _ => answer .badRequest s

/-- SETTINGS_WRITE (R177). -/
def execSettingsWrite (s : State) : Host.Outcome State Fault Refusal := s.runQuiet 38 doSettingsWrite

/-- The six settings, then the shop clock (R177, R178). -/
def State.settingsData (s : State) : List Byte :=
  let v := s.control.settings
  be 1 v.alertRepeat ++ be 2 v.meterPeriod ++ be 1 v.stallLimit ++ be 1 v.absentProbe ++ be 1 v.faultPoll
    ++ be 2 v.warmLimit ++ be 4 s.control.clock.toNat

/-- The answer to SETTINGS READ. -/
def doSettingsRead (_ : List Byte) (s : State) : Answer := ⟨.done, s.settingsData, s⟩

/-- SETTINGS_READ (R177). -/
def execSettingsRead (s : State) : Host.Outcome State Fault Refusal := s.runQuiet 39 doSettingsRead

/-- The answer to SET CLOCK. -/
def doSetClock (args : List Byte) (s : State) : Answer :=
  match args with
  | [c3, c2, c1, c0] =>
    answer .done { s with control := { s.control with clock := BitVec.ofNat 32 (beNat [c3, c2, c1, c0]) } }
  | _ => answer .badRequest s

/-- SET_CLOCK (R178). -/
def execSetClock (s : State) : Host.Outcome State Fault Refusal := s.runQuiet 40 doSetClock

/-- What STATUS reports, from offset 2 of the reply (R180, 12.4). -/
def State.statusData (s : State) : List Byte :=
  s.link.flags.wire ++ [s.link.state.code] ++ be 1 s.link.intakeBuf.length ++ be 1 s.link.controlBuf.length
    ++ be 1 s.link.replies.length ++ optional s.freeTick 7 1 (s.link.lastFlow.map fun f => [f.code])
    ++ be 1 s.intakeHeld ++ [flagByte s.intake.stalled.isSome] ++ be 3 s.spool.pool.length
    ++ be 1 s.jobs.ended.length ++ be 4 s.control.clock.toNat

/-- The answer to STATUS. -/
def doStatus (_ : List Byte) (s : State) : Answer := ⟨.done, s.statusData, s.bumpTick⟩

/-- STATUS (R180). -/
def execStatus (s : State) : Host.Outcome State Fault Refusal := s.runQuiet 41 doStatus

/-- The answer to CLEAR STATUS. -/
def doClearStatus (args : List Byte) (s : State) : Answer :=
  match args with
  | [set] => answer .done (s.modFlags fun f => f.clear set)
  | _ => answer .badRequest s

/-- CLEAR_STATUS (R180). -/
def execClearStatus (s : State) : Host.Outcome State Fault Refusal := s.runQuiet 42 doClearStatus

end Sys2Proof.Machine
end

