-- ==== Sys2Proof/Machine/Fetch.lean ====
section
/-! DEFINITION. The meaning of FETCH_LANDS: a granted fetch completes (R110). -/

namespace Sys2Proof.Machine

/-- The fetch request whose block joins the port buffer at its landing: granted, its run still open and not voided
(R110). -/
def PortRec.landing (r : PortRec) : Option FetchReq :=
  match r.fetch with
  | some f => if f.granted && !f.discard && r.runOpen then some f else none
  | none => none

/-- FETCH_LANDS: the block joins the back of the port buffer, or is discarded; the request becomes absent (R110). -/
def execFetchLands (s : State) : Host.Outcome State Fault Refusal :=
  match s.spool.granted with
  | some (.fetch p b) =>
    let held := match (s.port p).landing with
      | some f => [HeldBlock.mk b f.owner (s.blockBytes b)]
      | none => []
    let s1 : State := { s with spool := { s.spool with granted := none } }
    .next (State.closing s (s1.modPort p fun r => { r with buffer := r.buffer ++ held, fetch := none }))
  | _ => .next s

end Sys2Proof.Machine
end

