-- ==== Sys2Proof/Machine/Intake.lean ====
section
/-! DEFINITION. The meanings of the intake unit's steps: the taking of an OPEN, DATA, MARK, CLOSE or ABANDON from the front
of the intake buffer, the expiry of the stall timer, and the completion of a write (chapter 3). A front frame that
waits, or is of another kind, leaves the state as it stands (R44; log 1). -/

namespace Sys2Proof.Machine

/-! ## The front frame -/

/-- The front frame of the intake buffer, when it is of a kind. -/
def State.frontOf (s : State) (k : FrameKind) : Option Frame :=
  match s.link.intakeBuf with
  | f :: _ => if f.kind = k then some f else none
  | [] => none

/-- A frame that names no receiving job is taken and dropped with UNKNOWN-JOB (R45). -/
def State.dropUnknown (s : State) : State := s.takeFront.modFlags fun x => { x with unknownJob := true }

/-- A frame whose sequence is not the expected one is taken and breaks its job with reason GAP (R45). -/
def State.breakGap (s : State) (j : JobSlot) : State := s.takeFront.breakJob j .gap

/-- The expected sequence advances by one, wrapping (R45). -/
def State.advanceSeq (s : State) (j : JobSlot) (f : Frame) : State :=
  s.modJob j fun r => { r with expected := some (f.seq + 1) }

/-- The list holds an entry of job j. -/
def State.listHas (s : State) (j : JobSlot) : Bool := s.intake.writeList.any fun e => e.isOf j

/-- The list holds a close mark of job j. -/
def State.listHasMark (s : State) (j : JobSlot) : Bool :=
  s.intake.writeList.any fun e =>
    match e with
    | .mark j' _ _ _ _ => decide (j' = j)
    | _ => false

/-! ## OPEN (R46 to R48) -/

/-- The tests of R46, in order: the reason of the first that fails, or the fields, job slot and intake slot of an
acceptable OPEN. -/
def State.openTests (s : State) (f : Frame) : Except RefuseReason (OpenArgs × JobSlot × Fin 8) :=
  if (tget s.control.stations f.station).submit then
    match decodeOpen f with
    | none => .error .badHeader
    | some a =>
      if (s.findPair f.station f.tag).isSome then .error .duplicate
      else if (s.account a.account).isOpen = false then .error .noAccount
      else if tget s.binder.routes a.dest = 0 then .error .noRoute
      else match s.freeSlot with
        | none => .error .tableFull
        | some j =>
          match s.freeIntakeSlot with
          | none => .error .intakeBusy
          | some i => .ok (a, j, i)
  else .error .notPermitted

/-- The record of a job at the acceptance of its OPEN (R1, section 1.2). -/
def newJob (f : Frame) (a : OpenArgs) : Job where
  station := f.station
  tag := f.tag
  account := a.account
  dest := a.dest
  priority := a.priority
  copies := a.copies
  finishing := a.finishing
  needs := a.needs
  intake := .receiving
  expected := some 1
  received := 0
  head := none
  tail := none
  phase := .unbound
  boundPort := none
  lastPort := none
  held := false
  creditStopped := false
  cancel := none
  feed := ⟨.at 1 1, none⟩
  confirm := .at 1 1
  copiesDone := 0
  delivered := 0
  charged := 0
  releaseBehind := decide (a.copies = 1) && decide (a.finishing = .noFinish)
  outcome := none

/-- The reply to an OPEN (12.4). -/
def openReply (f : Frame) (code : ReplyCode) (reason slot : Byte) : Reply where
  station := f.station
  tag := f.tag
  request := 0
  payload := [code.code, reason, slot]

/-- The new job stands on the unbound list, and is bound from there when it can be bound (R64). -/
def State.bindNew (s : State) (j : JobSlot) : State :=
  ({ s with binder := { s.binder with unbound := s.binder.unbound ++ [j] } } : State).tryBind j

/-- The steps of R48: an OPEN is accepted. -/
def State.acceptOpen (s : State) (f : Frame) (a : OpenArgs) (j : JobSlot) (i : Fin 8) : State :=
  let s1 : State := { s with
    jobs := { s.jobs with recs := tset s.jobs.recs j (some (newJob f a)) }
    intake := { s.intake with slots := tset s.intake.slots i (some ⟨j, none, 0, 0⟩) } }
  (s1.bindNew j).placeReply
    (openReply f (if a.clamped then .acceptClamped else .accept) 0 (BitVec.ofNat 8 j.val))

/-- OPEN: the intake unit takes an OPEN once the reply queue has room, and accepts or refuses it (R44, R46, R48). -/
def execOpenFrame (s : State) : Host.Outcome State Fault Refusal :=
  match s.frontOf .openK with
  | none => .next s
  | some f =>
    if s.link.replies.length < 4 then
      match s.openTests f with
      | .error why => .next (State.closing s (s.takeFront.placeReply (openReply f .refuse why.code 0)))
      | .ok (a, j, i) => .next (State.closing s (s.takeFront.acceptOpen f a j i))
    else .next s

/-! ## DATA (R49) -/

/-- A write is placed at the back of the write list; a write has at least one byte (R43). -/
def State.placeWrite (s : State) (j : JobSlot) (b off : Nat) (bytes : List Byte) : State :=
  if bytes.isEmpty then s
  else { s with intake := { s.intake with writeList := s.intake.writeList ++ [.write j b off bytes false] } }

/-- Job j's intake slot is changed. -/
def State.modPlace (s : State) (j : JobSlot) (f : IntakeSlot → IntakeSlot) : State :=
  match s.intakeSlotOf j with
  | some i => { s with intake := { s.intake with slots := tset s.intake.slots i ((tget s.intake.slots i).map f) } }
  | none => s

/-- How many writes a DATA payload of n bytes makes (R49). -/
def IntakeSlot.writes (x : IntakeSlot) (n : Nat) : Nat :=
  if n = 0 then 0
  else if x.openSheet.isNone then 1
  else if n ≤ blockSize - x.tailOffset then 1
  else if x.tailOffset < blockSize then 2 else 1

/-- A DATA frame waits at the front (R44). -/
def State.dataWaits (s : State) (j : JobSlot) (n : Nat) : Bool :=
  let x := s.placeOf j
  decide (1 ≤ n) &&
    ((x.needsBlock n && s.spool.pool.isEmpty)
      || (x.openSheet.isNone && s.listHasMark j)
      || decide (4 < s.intake.writeList.length + x.writes n))

/-- The room that the tail block has for an open sheet's bytes (R49). -/
def IntakeSlot.room (x : IntakeSlot) : Nat := if x.openSheet.isNone then 0 else blockSize - x.tailOffset

/-- The first bytes of a payload are written into the room of the tail block (R49). -/
def State.fillTail (s : State) (j : JobSlot) (x : IntakeSlot) (bytes : List Byte) : State :=
  match (s.slot j).bind Job.tail with
  | some t => s.placeWrite j t x.tailOffset (bytes.take x.room)
  | none => s

/-- The payload's bytes go into a block taken for them, behind the room that the tail block has (R49). -/
def State.dataNewBlock (s : State) (j : JobSlot) (x : IntakeSlot) (bytes : List Byte) : State :=
  match (s.fillTail j x bytes).takeBlock j with
  | none => s
  | some (b, t) =>
    (t.placeWrite j b 0 (bytes.drop x.room)).modPlace j fun y =>
      { y with openSheet := some (y.openSheet.getD b), sheetBlocks := y.sheetBlocks + 1,
               tailOffset := bytes.length - x.room }

/-- The payload fits in the tail block (R49). -/
def State.dataInTail (s : State) (j : JobSlot) (x : IntakeSlot) (bytes : List Byte) : State :=
  match (s.slot j).bind Job.tail with
  | none => s
  | some t =>
    (s.placeWrite j t x.tailOffset bytes).modPlace j fun y => { y with tailOffset := y.tailOffset + bytes.length }

/-- A DATA payload is executed (R49). -/
def State.takeData (s : State) (j : JobSlot) (bytes : List Byte) : State :=
  let x := s.placeOf j
  if bytes.isEmpty then s
  else if x.beyond bytes.length then s.breakJob j .undeclared
  else if x.needsBlock bytes.length then s.dataNewBlock j x bytes
  else s.dataInTail j x bytes

/-- DATA: the intake unit takes a DATA frame (R44, R45, R49). -/
def execDataFrame (s : State) : Host.Outcome State Fault Refusal :=
  match s.frontOf .dataK with
  | none => .next s
  | some f =>
    match s.receiverOf f with
    | none => .next (State.closing s s.dropUnknown)
    | some (j, r) =>
      if r.expected = some f.seq then
        if s.dataWaits j f.payload.length && !(s.placeOf j).beyond f.payload.length then .next s
        else .next (State.closing s ((s.takeFront.advanceSeq j f).takeData j f.payload))
      else .next (State.closing s (s.breakGap j))

/-! ## MARK (R51, R52) -/

/-- A MARK that passes its check waits at the front (R44). -/
def State.markWaits (s : State) (j : JobSlot) : Bool :=
  if (s.placeOf j).openSheet.isNone then s.spool.pool.isEmpty || s.listHasMark j
  else s.listHas j && decide (4 ≤ s.intake.writeList.length)

/-- The sheet is no longer open in its intake slot (R51 step 2). -/
def IntakeSlot.closed (x : IntakeSlot) : IntakeSlot := { x with openSheet := none, sheetBlocks := 0, tailOffset := 0 }

/-- A close mark is applied: the sheet closes, and the port makes the feed attempt of a sheet its cursor waited for
(R52, R103). -/
def State.applyMark (s : State) (j : JobSlot) (first : Block) (s1 s2 : SideMode) (m : Media) : State :=
  let c := s.closeSheet j first s1 s2 m
  c.1.feedClosed j c.2

/-- A close mark is formed: applied at once when the list holds no entry of its job, else placed on the list (R51
step 3). -/
def State.markSheet (s : State) (j : JobSlot) (first : Block) (s1 s2 : SideMode) (m : Media) : State :=
  let t := s.modPlace j IntakeSlot.closed
  if t.listHas j then { t with intake := { t.intake with writeList := t.intake.writeList ++ [.mark j first s1 s2 m] } }
  else t.applyMark j first s1 s2 m

/-- A MARK that passes its check is executed (R51). -/
def State.takeMark (s : State) (j : JobSlot) (s1 s2 : SideMode) (m : Media) : State :=
  match (s.placeOf j).openSheet with
  | some b => s.markSheet j b s1 s2 m
  | none =>
    match s.takeBlock j with
    | some (b, t) => t.markSheet j b s1 s2 m
    | none => s

/-- MARK: the intake unit takes a MARK frame (R44, R45, R51). -/
def execMarkFrame (s : State) : Host.Outcome State Fault Refusal :=
  match s.frontOf .markK with
  | none => .next s
  | some f =>
    match s.receiverOf f with
    | none => .next (State.closing s s.dropUnknown)
    | some (j, r) =>
      if r.expected = some f.seq then
        match markValues r f.payload with
        | none => .next (State.closing s ((s.takeFront.advanceSeq j f).breakJob j .undeclared))
        | some (s1, s2, m) =>
          if s.markWaits j then .next s
          else .next (State.closing s ((s.takeFront.advanceSeq j f).takeMark j s1 s2 m))
      else .next (State.closing s (s.breakGap j))

/-! ## CLOSE and ABANDON (R53, R54) -/

/-- Steps 2 and 3 of R53, then the job's end if R8 allows; a feed cursor that waited for the sheet just closed makes its
feed attempt with intake COMPLETE. -/
def State.finishClose (s : State) (j : JobSlot) (waited : Bool) : State :=
  ((s.completeIntake j).feedClosed j waited).tryEnd j

/-- A CLOSE is executed (R53). -/
def State.takeClose (s : State) (j : JobSlot) (r : Job) : State :=
  match (s.placeOf j).openSheet with
  | none => s.finishClose j false
  | some b =>
    if r.received = 65535 then s.breakJob j .undeclared
    else
      let c := (s.modPlace j IntakeSlot.closed).closeSheet j b .mono .blank (lowestMedia r.needs.media)
      c.1.finishClose j c.2

/-- CLOSE: the intake unit takes a CLOSE frame (R44, R45, R53). -/
def execCloseFrame (s : State) : Host.Outcome State Fault Refusal :=
  match s.frontOf .closeK with
  | none => .next s
  | some f =>
    match s.receiverOf f with
    | none => .next (State.closing s s.dropUnknown)
    | some (j, r) =>
      if r.expected = some f.seq then
        if s.listHas j then .next s
        else .next (State.closing s ((s.takeFront.advanceSeq j f).takeClose j r))
      else .next (State.closing s (s.breakGap j))

/-- ABANDON: the intake unit takes an ABANDON frame, which cancels the job with reason STATION (R45, R54). -/
def execAbandonFrame (s : State) : Host.Outcome State Fault Refusal :=
  match s.frontOf .abandonK with
  | none => .next s
  | some f =>
    match s.receiverOf f with
    | none => .next (State.closing s s.dropUnknown)
    | some (j, r) =>
      if r.expected = some f.seq then
        .next (State.closing s ((s.takeFront.advanceSeq j f).cancelJob j .station))
      else .next (State.closing s (s.breakGap j))

/-! ## The stall timer and the write list (R50, R58) -/

/-- STALL_TIMER_EXPIRY: the front frame is discarded and the stalled job breaks with reason SPOOL-FULL (R58). -/
def execStallTimerExpiry (s : State) : Host.Outcome State Fault Refusal :=
  match s.intake.stalled with
  | none => .next s
  | some j =>
    let s1 := s.takeFront
    let s2 : State := { s1 with intake := { s1.intake with stalled := none, stallTimer := none } }
    .next (State.closing s (s2.breakJob j .spoolFull))

/-- The close marks of a list before which no entry of their own job stands, and the list without them (R50): `seen`
holds the jobs of the entries passed. -/
def readyMarks (seen : List JobSlot) : List WriteEntry →
    List (JobSlot × Block × SideMode × SideMode × Media) × List WriteEntry
  | [] => ([], [])
  | .write j b off bytes v :: rest =>
    let r := readyMarks (if v then seen else j :: seen) rest
    (r.1, .write j b off bytes v :: r.2)
  | .mark j b s1 s2 m :: rest =>
    if j ∈ seen then
      let r := readyMarks (j :: seen) rest
      (r.1, .mark j b s1 s2 m :: r.2)
    else
      let r := readyMarks seen rest
      ((j, b, s1, s2, m) :: r.1, r.2)

/-- A write's bytes reach spool memory, and its block's fill rises unless the write is void (R14, R50). -/
def State.storeWrite (s : State) (b off : Nat) (bytes : List Byte) (void : Bool) : State :=
  let s1 : State := { s with spool := { s.spool with
    mem := storeBytes (b * blockSize + off) bytes s.spool.mem, granted := none } }
  if void then s1
  else s1.setBlockLink b { s1.blockLink b with fill := (s1.blockLink b).fill + bytes.length }

/-- Close marks are applied (R50, R52). -/
def State.applyMarks (s : State) (ms : List (JobSlot × Block × SideMode × SideMode × Media)) : State :=
  ms.foldl (fun s m => s.applyMark m.1 m.2.1 m.2.2.1 m.2.2.2.1 m.2.2.2.2) s

/-- WRITE_COMPLETES: the granted write at the front of the list completes (R50, R14). -/
def execWriteCompletes (s : State) : Host.Outcome State Fault Refusal :=
  match s.spool.granted, s.intake.writeList with
  | some .write, .write _ b off bytes v :: rest =>
    let ms := readyMarks [] rest
    let s1 : State := { s.storeWrite b off bytes v with intake := { s.intake with writeList := ms.2 } }
    .next (State.closing s (s1.applyMarks ms.1))
  | _, _ => .next s

end Sys2Proof.Machine
end

