-- ==== Sys2Proof/Machine/Link.lean ====
section
/-! DEFINITION. The meanings of the reset input, the job link's events, the transmitter's end of frame and the shop clock
(chapter 2, R178). -/

namespace Sys2Proof.Machine

/-- Link up: the state becomes UP and every unacked alert record becomes due (R27). -/
def State.bringUp (s : State) : State :=
  { s with link := { s.link with state := .up }, alerts := tmap AlertRec.atLinkUp s.alerts }

/-- DEVICE_RESET: every field takes its reset value; line signal already present brings the link up at the end of the
reset (R25). Spool memory's bytes have no reset value and stay (log 3), and so do the waiting commands and the counter
of free values. -/
def execDeviceReset (lineSignal : Bool) (s : State) : Host.Outcome State Fault Refusal :=
  let s1 : State :=
    { State.reset with
      spool := { Spool.reset with mem := s.spool.mem }, freeTick := s.freeTick, pending := s.pending }
  .next (if lineSignal then s1.bringUp.transmit else s1)

/-- LINK_UP: line signal returns while the link is DOWN (R25, R27). -/
def execLinkUp (s : State) : Host.Outcome State Fault Refusal :=
  if s.link.state = .down then .next s.bringUp.linkClosing else .next s

/-- The link unit at link down (R26, steps 1 to 6). -/
def LinkUnit.goDown (l : LinkUnit) : LinkUnit :=
  { l with state := .down, intakeBuf := [], controlBuf := [], replies := [], target := .go, lastFlow := none,
           tx := none }

/-- A receiving job breaks at link down (R59). -/
def State.breakAtLinkDown (s : State) (j : JobSlot) : State :=
  match s.live j with
  | some r => if r.intake = .receiving then s.breakJob j .linkDown else s
  | none => s

/-- LINK_DOWN: line signal is lost while the link is UP (R25, R26); every receiving job breaks, in ascending slot order
(R59). -/
def execLinkDown (s : State) : Host.Outcome State Fault Refusal :=
  if s.link.state = .up then
    .next (State.closing s (allSlots.foldl State.breakAtLinkDown { s with link := s.link.goDown }))
  else .next s

/-- A job frame whose station holds SUBMIT, or an OPEN, joins the intake buffer while it has room (R30). -/
def State.sortJobFrame (s : State) (f : Frame) : State :=
  if s.link.intakeBuf.length < 16 then s.joinIntake f
  else s.modFlags fun x => { x with overrun := true }

/-- The sorting of a frame that passed the frame check (R30). -/
def State.sortFrame (s : State) (f : Frame) : State :=
  match f.kind with
  | .controlK =>
    if s.link.controlBuf.length < 4 then
      { s with link := { s.link with controlBuf := s.link.controlBuf ++ [f] } }
    else s.modFlags fun x => { x with controlOverrun := true }
  | .openK => s.sortJobFrame f
  | _ =>
    if (tget s.control.stations f.station).submit then s.sortJobFrame f
    else s.modFlags fun x => { x with notPermitted := true }

/-- FRAME_ARRIVES: an inbound frame is received whole, checked and sorted (R28, R30); while DOWN the part receives
none (R25). -/
def execFrameArrives (bytes : List Byte) (s : State) : Host.Outcome State Fault Refusal :=
  if s.link.state = .up then
    match parseFrame bytes with
    | some f => .next (s.sortFrame f).linkClosing
    | none => .next (s.modFlags fun x => { x with frameCheck := true }).linkClosing
  else .next s

/-- FRAME_TRANSMITTED: the last byte of the frame in the transmitter has been sent (R40, R41). -/
def execFrameTransmitted (s : State) : Host.Outcome State Fault Refusal :=
  if s.link.tx.isSome then
    .next ({ s with link := { s.link with tx := none } } : State).linkClosing
  else .next s

/-- SHOP_CLOCK_TICK: the shop clock advances by one second, wrapping (R178). -/
def execShopClockTick (s : State) : Host.Outcome State Fault Refusal :=
  .next { s with control := { s.control with clock := s.control.clock + 1 } }

end Sys2Proof.Machine
end

