-- ==== Sys2Proof/Machine/PortRequests.lean ====
section
/-! DEFINITION. The meanings of the port, pacing, rank and finisher requests (5.6, R77, R78, R97, R98, R109, R129 to R131). -/

namespace Sys2Proof.Machine

/-! ## The port table (R77, R78, R88) -/

/-- The fields that a PORT TABLE WRITE carries. -/
structure TableWrite where
  select       : Byte
  enabled      : Byte
  pacing       : Byte
  finisher     : Byte
  standbyDelay : Byte
  restMode     : Byte
  lightWarm    : Byte
  deepWarm     : Nat

/-- The finisher unit of a byte: 255 for NONE, above 3 stored as 3 (R77, R182). -/
def finisherOf (b : Byte) : Option FinUnit := if b = 255 then none else some (clampPriority b.toNat)

/-- The port's claimed job holds a finisher lock (R78). -/
def State.claimHoldsLock (s : State) (p : Port) : Bool :=
  match s.claim p with
  | some j => (List.finRange 4).any fun f =>
      match s.lock f with
      | .job j' _ => decide (j' = j)
      | _ => false
  | none => false

/-- The write's finisher unit field is refused IN-USE (R78). -/
def State.finisherRefused (s : State) (p : Port) (w : TableWrite) : Bool :=
  selected w.select 2 && s.claimHoldsLock p && decide (finisherOf w.finisher ≠ (s.entry p).finisher)

/-- A field of the write was selected and stored at an end of its range (R77). -/
def TableWrite.clamps (w : TableWrite) (finisherRefused : Bool) : Bool :=
  (selected w.select 1 && decide (3 < w.pacing.toNat))
    || (selected w.select 2 && !finisherRefused && decide (3 < w.finisher.toNat) && decide (w.finisher ≠ 255))
    || (selected w.select 3 && decide (240 < w.standbyDelay.toNat))
    || (selected w.select 5 && decide (clamp 1 60 w.lightWarm.toNat ≠ w.lightWarm.toNat))
    || (selected w.select 6 && decide (clamp 1 600 w.deepWarm ≠ w.deepWarm))

/-- The entry after a write: the selected fields, clamped (R77, R175). -/
def PortEntry.write (e : PortEntry) (w : TableWrite) (finisherRefused : Bool) : PortEntry where
  enabled := if selected w.select 0 then yesNo w.enabled else e.enabled
  pacing := if selected w.select 1 then clampPriority w.pacing.toNat else e.pacing
  finisher := if selected w.select 2 && !finisherRefused then finisherOf w.finisher else e.finisher
  standbyDelay := if selected w.select 3 then min 240 w.standbyDelay.toNat else e.standbyDelay
  restMode := if selected w.select 4 then (if w.restMode = 0 then .light else .deep) else e.restMode
  lightWarm := if selected w.select 5 then clamp 1 60 w.lightWarm.toNat else e.lightWarm
  deepWarm := if selected w.select 6 then clamp 1 600 w.deepWarm else e.deepWarm

/-- A finisher unit NONE displaces the port's unclaimed finishing jobs (R78 step 1). -/
def State.dropFinishing (s : State) (p : Port) : State :=
  if (s.entry p).finisher = none then
    s.toUnboundFront ((s.queue p).filter fun j => s.isFinishing j && decide (s.claim p ≠ some j))
  else s

/-- A PORT TABLE WRITE is carried out (R77, R78, R88, R68). -/
def State.writeTable (s : State) (p : Port) (w : TableWrite) : State :=
  let refused := s.finisherRefused p w
  let finisherWritten := selected w.select 2 && !refused
  let s1 : State := { s with table := tset s.table p ((s.entry p).write w refused) }
  let s2 :=
    if selected w.select 3 && s.idle p then
      s1.modPort p fun r => { r with standbyTimer := (s1.entry p).standbyLoad }
    else s1
  let s3 := if finisherWritten then s2.dropFinishing p else s2
  if finisherWritten || (selected w.select 0 && yesNo w.enabled) then s3.reexamine else s3

/-- The answer to PORT TABLE WRITE; IN-USE stands before CLAMPED (R174). -/
def doPortTableWrite (args : List Byte) (s : State) : Answer :=
  match args with
  | [port, select, enabled, pacing, finisher, standby, rest, light, d1, d0] =>
    onPort [port] s fun p =>
      let w : TableWrite := ⟨select, enabled, pacing, finisher, standby, rest, light, d1.toNat * 256 + d0.toNat⟩
      answer (if s.finisherRefused p w then .inUse else if w.clamps (s.finisherRefused p w) then .clamped else .done)
        (s.writeTable p w)
  | _ => answer .badRequest s

/-- PORT_TABLE_WRITE (R77, R78). -/
def execPortTableWrite (s : State) : Host.Outcome State Fault Refusal := s.runRequest 12 doPortTableWrite

/-- The answer to PORT TABLE READ. -/
def doPortTableRead (args : List Byte) (s : State) : Answer :=
  onPort args s fun p => ⟨.done, (s.entry p).wire, s⟩

/-- PORT_TABLE_READ (R77). -/
def execPortTableRead (s : State) : Host.Outcome State Fault Refusal := s.runQuiet 13 doPortTableRead

/-! ## PORT QUERY (R97) -/

/-- What PORT QUERY reports, from offset 2 of the reply (R97, 12.4). -/
def State.portData (s : State) (p : Port) : List Byte :=
  let r := s.port p
  let t := s.freeTick
  [r.state.code] ++ optional t 3 6 (r.identity.map Identity.wire)
    ++ optional t 10 1 (r.restDepth.map fun m => [m.code])
    ++ [flagByte r.offlinePending, commandCode r.outstanding] ++ (s.entry p).wire
    ++ optional t 22 1 ((s.claim p).map fun j => be 1 j.val) ++ be 1 r.inFlight.length
    ++ be 4 r.sheetsFed.toNat ++ be 4 r.sheetsGood.toNat ++ be 4 r.sheetsSpoiled.toNat
    ++ be 2 r.underruns.toNat ++ be 2 r.strays.toNat

/-- The answer to PORT QUERY. -/
def doPortQuery (args : List Byte) (s : State) : Answer :=
  onPort args s fun p => ⟨.done, s.portData p, s.bumpTick⟩

/-- PORT_QUERY (R97). -/
def execPortQuery (s : State) : Host.Outcome State Fault Refusal := s.runQuiet 14 doPortQuery

/-! ## PORT OFFLINE, ONLINE, PROBE, RESET (R94 to R96) -/

/-- PORT OFFLINE in each state (R94). -/
def State.withdrawPort (s : State) (p : Port) : State :=
  match (s.port p).state with
  | .offline => s
  | .running | .ending => (s.modPort p fun r => { r with offlinePending := true }).sendEnd p
  | .absent | .probing | .standby | .waking | .ready | .faulted => s.enterOffline p

/-- The answer to PORT OFFLINE. -/
def doPortOffline (args : List Byte) (s : State) : Answer :=
  onPort args s fun p => answer .done (s.withdrawPort p)

/-- PORT_OFFLINE (R94). -/
def execPortOffline (s : State) : Host.Outcome State Fault Refusal := s.runRequest 15 doPortOffline

/-- PORT ONLINE in each state (R94). -/
def State.restorePort (s : State) (p : Port) : State :=
  match (s.port p).state with
  | .offline => s.startProbe p
  | _ => s.modPort p fun r => { r with offlinePending := false }

/-- The answer to PORT ONLINE. -/
def doPortOnline (args : List Byte) (s : State) : Answer :=
  onPort args s fun p => answer .done (s.restorePort p)

/-- PORT_ONLINE (R94). -/
def execPortOnline (s : State) : Host.Outcome State Fault Refusal := s.runRequest 16 doPortOnline

/-- The answer to PORT PROBE, by the port's state (R96). -/
def doPortProbe (args : List Byte) (s : State) : Answer :=
  onPort args s fun p =>
    match (s.port p).state with
    | .absent => answer .done (s.startProbe p)
    | .probing | .waking | .running | .ending => answer .busy s
    | .offline | .standby | .ready | .faulted => answer .badRequest s

/-- PORT_PROBE (R96). -/
def execPortProbe (s : State) : Host.Outcome State Fault Refusal := s.runRequest 17 doPortProbe

/-- The steps of R95. -/
def State.resetPort (s : State) (p : Port) : State :=
  let s1 := s.modPort p fun r => { r.answered.stopTimers with offlinePending := false }
  let s2 := if (s.port p).runOpen then s1.abandonRun p else s1
  let s3 := (s2.modPort p fun r => { r with state := .probing }).releaseClaim p
  let s4 := match s.claim p with
    | some j => s3.tryEnd j
    | none => s3
  s4.startProbe p

/-- The answer to PORT RESET. -/
def doPortReset (args : List Byte) (s : State) : Answer :=
  onPort args s fun p => answer .done (s.resetPort p)

/-- PORT_RESET (R95). -/
def execPortReset (s : State) : Host.Outcome State Fault Refusal := s.runRequest 18 doPortReset

/-! ## Pacing classes and ranks (R98, R109) -/

/-- The answer to PACING WRITE: a transit limit below 100 is stored as 100 (R98). -/
def doPacingWrite (args : List Byte) (s : State) : Answer :=
  match args with
  | [cls, i1, i0, t1, t0] =>
    match finOf 4 cls.toNat with
    | none => answer .badIndex s
    | some c =>
      let limit := t1.toNat * 256 + t0.toNat
      answer (if limit < 100 then .clamped else .done)
        { s with control := { s.control with
          pacing := tset s.control.pacing c ⟨i1.toNat * 256 + i0.toNat, max 100 limit⟩ } }
  | _ => answer .badRequest s

/-- PACING_WRITE (R98). -/
def execPacingWrite (s : State) : Host.Outcome State Fault Refusal := s.runQuiet 19 doPacingWrite

/-- The answer to PACING READ. -/
def doPacingRead (args : List Byte) (s : State) : Answer :=
  match args with
  | [cls] =>
    match finOf 4 cls.toNat with
    | none => answer .badIndex s
    | some c => ⟨.done, be 2 (tget s.control.pacing c).interval ++ be 2 (tget s.control.pacing c).transitLimit, s⟩
  | _ => answer .badRequest s

/-- PACING_READ (R98). -/
def execPacingRead (s : State) : Host.Outcome State Fault Refusal := s.runQuiet 20 doPacingRead

/-- The rank table with a requester's rank swapped with that of the holder of the new rank (R109). -/
def swapRanks (ranks : Vector Nat 17) (q : Requester) (rank : Nat) : Vector Nat 17 :=
  let old := tget ranks q
  tset (tmap (fun x => if x = rank then old else x) ranks) q rank

/-- The answer to RANK WRITE: a rank above 16 is stored as 16 (R109). -/
def doRankWrite (args : List Byte) (s : State) : Answer :=
  match args with
  | [req, rank] =>
    match finOf 17 req.toNat with
    | none => answer .badIndex s
    | some q =>
      answer (if 16 < rank.toNat then .clamped else .done)
        { s with spool := { s.spool with ranks := swapRanks s.spool.ranks q (min 16 rank.toNat) } }
  | _ => answer .badRequest s

/-- RANK_WRITE (R109). -/
def execRankWrite (s : State) : Host.Outcome State Fault Refusal := s.runQuiet 21 doRankWrite

/-- The answer to RANK READ: the rank of each requester, in requester order. -/
def doRankRead (_ : List Byte) (s : State) : Answer :=
  ⟨.done, s.spool.ranks.toList.flatMap fun r => be 1 r, s⟩

/-- RANK_READ (R109). -/
def execRankRead (s : State) : Host.Outcome State Fault Refusal := s.runQuiet 22 doRankRead

/-! ## Finisher locks (R129 to R131) -/

/-- A request whose one field is a finisher unit. -/
def onUnit (args : List Byte) (s : State) (body : FinUnit → Answer) : Answer :=
  match args with
  | [u] =>
    match finOf 4 u.toNat with
    | none => answer .badIndex s
    | some f => body f
  | _ => answer .badRequest s

/-- The answer to FINISHER LOCK: a test-and-set (R129). -/
def doFinisherLock (args : List Byte) (s : State) : Answer :=
  onUnit args s fun f =>
    match s.lock f with
    | .free => answer .done { s with locks := tset s.locks f .management }
    | h => ⟨.held, s.holderWire h, s⟩

/-- FINISHER_LOCK (R129). -/
def execFinisherLock (s : State) : Host.Outcome State Fault Refusal := s.runQuiet 23 doFinisherLock

/-- The answer to FINISHER UNLOCK; the grant follows at the end of the step (R130, R127). -/
def doFinisherUnlock (args : List Byte) (s : State) : Answer :=
  onUnit args s fun f =>
    match s.lock f with
    | .management => answer .done { s with locks := tset s.locks f .free }
    | .job _ _ => answer .inUse s
    | .free => answer .done s

/-- FINISHER_UNLOCK (R130). -/
def execFinisherUnlock (s : State) : Host.Outcome State Fault Refusal := s.runRequest 24 doFinisherUnlock

/-- The answer to FINISHER READ: the four holders in unit order (R131). -/
def doFinisherRead (_ : List Byte) (s : State) : Answer := ⟨.done, s.locks.toList.flatMap s.holderWire, s⟩

/-- FINISHER_READ (R131). -/
def execFinisherRead (s : State) : Host.Outcome State Fault Refusal := s.runQuiet 25 doFinisherRead

end Sys2Proof.Machine
end

