-- ==== Sys2Proof/Machine/Reports.lean ====
section
/-! DEFINITION. The meanings of what a printer sends: answers, identity and sense results, run reports, RESULT and
READY-CHANGE (chapters 5 and 6). A report that no rule takes is discarded and counted as a stray report (R97). -/

namespace Sys2Proof.Machine

/-- IDENTITY_RESULT: the answer to PROBE (R80, R81, R86). -/
def execIdentityResult (p : Port) (r : IdentityBytes) (s : State) : Host.Outcome State Fault Refusal :=
  if (s.port p).outstanding = some .probe then
    match decodeIdentity r with
    | some (i, resting) => .next (State.closing s (s.takeIdentity p i resting))
    | none => .next (State.closing s ((s.modPort p PortRec.answered).enterAbsent p))
  else .next (s.stray p)

/-- SENSE_RESULT: the answer to SENSE (R80, R82, R90, R92, R184). -/
def execSenseResult (p : Port) (r : SenseBytes) (s : State) : Host.Outcome State Fault Refusal :=
  if (s.port p).outstanding = some .sense then
    .next (State.closing s (s.takeSense p (yesNo r.ready) (yesNo r.resting) (senseCondition r.condition.toNat)))
  else .next (s.stray p)

/-- TAKEN: the answer to WARM (R89), REST (R88) and RUN (R91, R102). -/
def execTaken (p : Port) (s : State) : Host.Outcome State Fault Refusal :=
  let r := s.port p
  match r.outstanding with
  | some .warm =>
    .next (State.closing s (s.modPort p fun r =>
      { r.answered with warmTimer := if r.state = .waking then some r.warmInterval else r.warmTimer }))
  | some .rest =>
    .next (State.closing s (
      if r.state = .ready then (s.modPort p PortRec.answered).enterService p .standby (some r.restSent)
      else s.modPort p PortRec.answered))
  | some .run => if r.executing then .next (s.stray p) else .next (State.closing s (s.beginExecution p))
  | _ => .next (s.stray p)

/-- REFUSE: the termination class REFUSED of the outstanding command (R80). -/
def execRefuse (p : Port) (s : State) : Host.Outcome State Fault Refusal :=
  let r := s.port p
  match r.outstanding with
  | some .probe => .next (State.closing s ((s.modPort p PortRec.answered).enterAbsent p))
  | some .sense => .next (State.closing s (s.takeSense p false false .noCondition))
  | some .warm =>
    .next (State.closing s (
      if r.state = .waking then
        (((s.modPort p PortRec.answered).raise p .warmFail none none).enterFaulted p)
      else s.modPort p PortRec.answered))
  | some .rest => .next (State.closing s (s.modPort p PortRec.answered))
  | some .run => if r.executing then .next (s.stray p) else .next (State.closing s (s.refuseRun p))
  | none => .next (s.stray p)

/-- Some in-flight entry has blocks not yet sent (R110). -/
def State.unsent (s : State) (p : Port) : Bool :=
  (s.port p).inFlight.any fun e => decide (e.sent < s.sheetCount e.first)

/-- DEMAND: the printer is ready to receive one BLOCK (R110). -/
def execDemand (p : Port) (s : State) : Host.Outcome State Fault Refusal :=
  if (s.port p).executing then
    if (s.port p).sendable then .next (State.closing s (s.sendFront p))
    else if !(s.port p).pendingDemand && s.unsent p then
      .next (State.closing s (s.modPort p fun r => { r with pendingDemand := true }))
    else .next (s.stray p)
  else .next (s.stray p)

/-- The entries up to the one a FEED names are picked and their transit timers start (R111). -/
def pickUpTo (tag : Byte) (limit : Nat) : List InFlight → List InFlight
  | [] => []
  | e :: rest =>
    (if e.picked then e else { e with picked := true, transit := some limit })
      :: (if e.tag = tag then rest else pickUpTo tag limit rest)

/-- The load of the pacing gap timer: none for an interval of 0 (R111). -/
def Pacing.gapLoad (c : Pacing) : Option Nat := if c.interval = 0 then none else some c.interval

/-- FEED: the printer has picked a sheet (R111). -/
def execFeed (p : Port) (tag : Byte) (s : State) : Host.Outcome State Fault Refusal :=
  let c := tget s.control.pacing (s.entry p).pacing
  if (s.port p).executing && ((s.port p).inFlight.any fun e => decide (e.tag = tag) && !e.picked) then
    .next (State.closing s (s.modPort p fun r =>
      { r with inFlight := pickUpTo tag c.transitLimit r.inFlight, gapTimer := c.gapLoad }))
  else .next (s.stray p)

/-- The entries older than the one with a tag, and that entry. -/
def splitAtTag (tag : Byte) (es : List InFlight) : Option (List InFlight × InFlight) :=
  match es.find? fun e => decide (e.tag = tag) with
  | some e => some (es.takeWhile fun x => decide (x.tag ≠ tag), e)
  | none => none

/-- EXIT: a sheet has left the paper path (R113), then a feed attempt and, when no sheet is left, END. -/
def execExit (p : Port) (tag disposition : Byte) (s : State) : Host.Outcome State Fault Refusal :=
  if (s.port p).executing then
    match splitAtTag tag (s.port p).inFlight with
    | some (older, e) =>
      .next (State.closing s (((s.exitAt p older e (dispositionOf disposition)).attemptFeed p).endIfDry p))
    | none => .next (s.stray p)
  else .next (s.stray p)

/-- RESULT: the run has ended (R84, R116, R117). -/
def execResult (p : Port) (r : ResultBytes) (s : State) : Host.Outcome State Fault Refusal :=
  if (s.port p).executing then
    .next (State.closing s (s.takeResult p (resultClassOf r.cls.toNat) (conditionOf r.condition.toNat) r.good.toNat
      (lastTagOf r)))
  else .next (s.stray p)

/-- A fault reported outside a run takes port p to FAULTED with an alert (R90, R92, R152). -/
def State.faultNow (s : State) (p : Port) (a : AlertKind × Option JamLocation) : State :=
  (s.raise p a.1 a.2 none).enterFaulted p

/-- A READY-CHANGE in each port state (R87, R90, R91, R92). -/
def State.readyReport (s : State) (p : Port) (ready : Bool) (c : Condition) : State :=
  match (s.port p).state with
  | .absent | .probing | .offline => s.stray p
  | .standby | .waking =>
    if ready then s.enterService p .ready none
    else match c.alert with
      | none => s
      | some a => s.faultNow p a
  | .ready => if ready then s else s.faultNow p (c.alert.getD (.engineFault, none))
  | .running => if (s.port p).executing && !ready then s.modPort p PortRec.startEnd else s
  | .ending => s
  | .faulted => if ready then s.enterService p .ready none else s.faultReport p c

/-- READY-CHANGE: the printer's readiness changes (R92, R184). -/
def execReadyChange (p : Port) (ready condition : Byte) (s : State) : Host.Outcome State Fault Refusal :=
  .next (State.closing s (s.readyReport p (yesNo ready) (senseCondition condition.toNat)))

end Sys2Proof.Machine
end

