-- ==== Sys2Proof/Machine/Dispatch.lean ====
section
/-! DEFINITION. The meaning of every command: one arm for each row of spec/opcode_table.json. -/

namespace Sys2Proof.Machine

/-- The meaning of a command: its effect on everything but the queue of waiting commands. -/
def exec (i : Instr) (s : State) : Host.Outcome State Fault Refusal :=
  match i with
  | .deviceReset lineSignal => Sys2Proof.Machine.execDeviceReset lineSignal s
  | .linkUp => Sys2Proof.Machine.execLinkUp s
  | .linkDown => Sys2Proof.Machine.execLinkDown s
  | .frameArrives bytes => Sys2Proof.Machine.execFrameArrives bytes s
  | .openFrame => Sys2Proof.Machine.execOpenFrame s
  | .dataFrame => Sys2Proof.Machine.execDataFrame s
  | .markFrame => Sys2Proof.Machine.execMarkFrame s
  | .closeFrame => Sys2Proof.Machine.execCloseFrame s
  | .abandonFrame => Sys2Proof.Machine.execAbandonFrame s
  | .stallTimerExpiry => Sys2Proof.Machine.execStallTimerExpiry s
  | .writeCompletes => Sys2Proof.Machine.execWriteCompletes s
  | .fetchLands => Sys2Proof.Machine.execFetchLands s
  | .frameTransmitted => Sys2Proof.Machine.execFrameTransmitted s
  | .shopClockTick => Sys2Proof.Machine.execShopClockTick s
  | .jobQuery => Sys2Proof.Machine.execJobQuery s
  | .hold => Sys2Proof.Machine.execHold s
  | .release => Sys2Proof.Machine.execRelease s
  | .cancel => Sys2Proof.Machine.execCancel s
  | .move => Sys2Proof.Machine.execMove s
  | .priority => Sys2Proof.Machine.execPriority s
  | .purge => Sys2Proof.Machine.execPurge s
  | .routeWrite => Sys2Proof.Machine.execRouteWrite s
  | .routeRead => Sys2Proof.Machine.execRouteRead s
  | .queueRead => Sys2Proof.Machine.execQueueRead s
  | .unboundRead => Sys2Proof.Machine.execUnboundRead s
  | .portTableWrite => Sys2Proof.Machine.execPortTableWrite s
  | .portTableRead => Sys2Proof.Machine.execPortTableRead s
  | .portQuery => Sys2Proof.Machine.execPortQuery s
  | .portOffline => Sys2Proof.Machine.execPortOffline s
  | .portOnline => Sys2Proof.Machine.execPortOnline s
  | .portProbe => Sys2Proof.Machine.execPortProbe s
  | .portReset => Sys2Proof.Machine.execPortReset s
  | .pacingWrite => Sys2Proof.Machine.execPacingWrite s
  | .pacingRead => Sys2Proof.Machine.execPacingRead s
  | .rankWrite => Sys2Proof.Machine.execRankWrite s
  | .rankRead => Sys2Proof.Machine.execRankRead s
  | .finisherLock => Sys2Proof.Machine.execFinisherLock s
  | .finisherUnlock => Sys2Proof.Machine.execFinisherUnlock s
  | .finisherRead => Sys2Proof.Machine.execFinisherRead s
  | .accountWrite => Sys2Proof.Machine.execAccountWrite s
  | .accountCredit => Sys2Proof.Machine.execAccountCredit s
  | .accountSetBalance => Sys2Proof.Machine.execAccountSetBalance s
  | .accountRead => Sys2Proof.Machine.execAccountRead s
  | .rateWrite => Sys2Proof.Machine.execRateWrite s
  | .rateRead => Sys2Proof.Machine.execRateRead s
  | .alertAck => Sys2Proof.Machine.execAlertAck s
  | .alertRead => Sys2Proof.Machine.execAlertRead s
  | .maskWrite => Sys2Proof.Machine.execMaskWrite s
  | .maskRead => Sys2Proof.Machine.execMaskRead s
  | .stationWrite => Sys2Proof.Machine.execStationWrite s
  | .stationRead => Sys2Proof.Machine.execStationRead s
  | .settingsWrite => Sys2Proof.Machine.execSettingsWrite s
  | .settingsRead => Sys2Proof.Machine.execSettingsRead s
  | .setClock => Sys2Proof.Machine.execSetClock s
  | .status => Sys2Proof.Machine.execStatus s
  | .clearStatus => Sys2Proof.Machine.execClearStatus s
  | .identityResult p r => Sys2Proof.Machine.execIdentityResult p r s
  | .senseResult p r => Sys2Proof.Machine.execSenseResult p r s
  | .taken p => Sys2Proof.Machine.execTaken p s
  | .refuse p => Sys2Proof.Machine.execRefuse p s
  | .demand p => Sys2Proof.Machine.execDemand p s
  | .feed p tag => Sys2Proof.Machine.execFeed p tag s
  | .exit p tag disposition => Sys2Proof.Machine.execExit p tag disposition s
  | .result p r => Sys2Proof.Machine.execResult p r s
  | .readyChange p ready condition => Sys2Proof.Machine.execReadyChange p ready condition s
  | .answerTimerExpiry p => Sys2Proof.Machine.execAnswerTimerExpiry p s
  | .endTimerExpiry p => Sys2Proof.Machine.execEndTimerExpiry p s
  | .standbyTimerExpiry p => Sys2Proof.Machine.execStandbyTimerExpiry p s
  | .warmTimerExpiry p => Sys2Proof.Machine.execWarmTimerExpiry p s
  | .warmLimitTimerExpiry p => Sys2Proof.Machine.execWarmLimitTimerExpiry p s
  | .senseRetryTimerExpiry p => Sys2Proof.Machine.execSenseRetryTimerExpiry p s
  | .faultPollTimerExpiry p => Sys2Proof.Machine.execFaultPollTimerExpiry p s
  | .absentProbeTimerExpiry p => Sys2Proof.Machine.execAbsentProbeTimerExpiry p s
  | .transitTimerExpiry p tag => Sys2Proof.Machine.execTransitTimerExpiry p tag s
  | .pacingGapTimerExpiry p => Sys2Proof.Machine.execPacingGapTimerExpiry p s
  | .repeatTimerExpiry p => Sys2Proof.Machine.execRepeatTimerExpiry p s
  | .meterPeriodTimerExpiry => Sys2Proof.Machine.execMeterPeriodTimerExpiry s
  | .unknownRequest => Sys2Proof.Machine.execUnknownRequest s

end Sys2Proof.Machine
end

