-- ==== Sys2Proof/Safety.lean ====
section
/-! DEFINITION. What the statements speak of: the laws that every step keeps (canonical form, ranges, the laws the spec
names at R12, R17, R33, R42, R43, R65, R66, R67, R97, R106, R123, R134, R138, R158), what the end of an event may change,
and the words in which the commands' effects are stated. -/

namespace Sys2Proof.Machine

/-! ## Canonical form -/

/-- Spool memory, the link records and the two notice sets are in canonical form, so that equal contents are equal
data. -/
structure State.Stored (s : State) : Prop where
  mem     : memoryWf s.spool.mem = true
  links   : swf ({} : LinkRec) s.spool.links = true
  events  : swf ({} : AccountEvents) s.notices.events = true
  reports : swf ({} : MeterReport) s.notices.reports = true

/-! ## Ranges of the tables that management writes -/

/-- The global settings lie in their ranges (R177). -/
def Settings.Legal (v : Settings) : Prop :=
  (1 ≤ v.alertRepeat ∧ v.alertRepeat ≤ 255) ∧ v.meterPeriod ≤ 1440 ∧ (1 ≤ v.stallLimit ∧ v.stallLimit ≤ 255)
    ∧ (1 ≤ v.absentProbe ∧ v.absentProbe ≤ 255) ∧ (1 ≤ v.faultPoll ∧ v.faultPoll ≤ 255)
    ∧ (10 ≤ v.warmLimit ∧ v.warmLimit ≤ 600)

/-- A port table entry lies in its ranges (R77). -/
def PortEntry.Legal (e : PortEntry) : Prop :=
  e.standbyDelay ≤ 240 ∧ (1 ≤ e.lightWarm ∧ e.lightWarm ≤ 60) ∧ (1 ≤ e.deepWarm ∧ e.deepWarm ≤ 600)

/-- A pacing class lies in its ranges (R98). -/
def Pacing.Legal (c : Pacing) : Prop := c.interval ≤ 65535 ∧ 100 ≤ c.transitLimit ∧ c.transitLimit ≤ 65535

/-- A rate entry lies in its ranges (R135). -/
def Rate.Legal (r : Rate) : Prop := r.mono ≤ 4095 ∧ r.colour ≤ 4095

/-- Every table that management writes holds legal values: some station holds MANAGE (R38), every rank is held by exactly
one requester (R109), and the rest lie in their ranges. -/
structure State.TablesLegal (s : State) : Prop where
  manager   : ∃ i, (tget s.control.stations i).manage = true
  settings  : s.control.settings.Legal
  pacing    : ∀ c, (tget s.control.pacing c).Legal
  entries   : ∀ p, (s.entry p).Legal
  rates     : ∀ c, (tget s.meter.rates c).Legal
  ranks     : ∀ q, tget s.spool.ranks q ≤ 16
  ranksOnce : ∀ q q', tget s.spool.ranks q = tget s.spool.ranks q' → q = q'

/-! ## The link unit -/

/-- The link unit's buffers keep their capacities and kinds (R31, R32, R39), the flow target its hysteresis (R33), and a
link that is DOWN holds nothing (R25, R26). -/
structure LinkUnit.Legal (l : LinkUnit) : Prop where
  intake      : l.intakeBuf.length ≤ 16
  intakeKind  : ∀ f ∈ l.intakeBuf, f.kind ≠ .controlK
  control     : l.controlBuf.length ≤ 4
  controlKind : ∀ f ∈ l.controlBuf, f.kind = .controlK
  replies     : l.replies.length ≤ 4
  high        : 12 ≤ l.intakeBuf.length → l.target = .hold
  low         : l.intakeBuf.length ≤ 4 → l.target = .go
  down        : l.state = .down → l.intakeBuf = [] ∧ l.controlBuf = [] ∧ l.replies = [] ∧ l.tx = none ∧ l.lastFlow = none

/-! ## The ports -/

/-- A port's state, its outstanding command, its run and its timers fit one another: a run is open in RUNNING and ENDING
and nowhere else, for as long as the RUN is outstanding (R79, R83, R91), and neither END nor HALT has been sent in RUNNING
(R91, R104, R105); the answer timer runs while an answer is awaited (R80); each other timer runs only in the state that
starts it (R84, R87, R88, R90, R92). -/
structure PortRec.Consistent (r : PortRec) : Prop where
  run        : r.runOpen = true ↔ r.outstanding = some .run
  running    : (r.state = .running ∨ r.state = .ending) ↔ r.runOpen = true
  execution  : r.executing = true → r.runOpen = true
  ending     : r.state = .ending → r.executing = true
  unsent     : r.state = .running → r.endSent = false ∧ r.haltSent = false
  probing    : r.state = .probing ↔ r.outstanding = some .probe
  offline    : r.state = .offline → r.outstanding = none
  answer     : r.answerTimer.isSome = true ↔ r.outstanding.isSome = true ∧ r.executing = false
  endTimer   : r.endTimer.isSome = true → r.executing = true
  standby    : r.standbyTimer.isSome = true → r.state = .ready ∧ r.outstanding = none
  warm       : r.warmTimer.isSome = true → r.state = .waking ∧ r.outstanding = none
  retry      : r.senseRetryTimer.isSome = true → r.state = .waking ∧ r.outstanding = none
  warmLimit  : r.warmLimitTimer.isSome = true ↔ r.state = .waking
  faultPoll  : r.faultPollTimer.isSome = true ↔ r.state = .faulted
  absent     : r.absentProbeTimer.isSome = true ↔ r.state = .absent
  waking     : ¬ (r.warmTimer.isSome = true ∧ r.senseRetryTimer.isSome = true)

/-- Every port is consistent. -/
def State.PortsConsistent (s : State) : Prop := ∀ p, (s.port p).Consistent

/-- The law of the life counters (R97), with the in-flight list and the port buffer that it counts: at most 4 entries in
flight, carrying the tags that lead up to the tag counter, all unresolved (R106), and at most 2 blocks held, with room
kept for the one that is requested (R107). -/
structure PortRec.Counted (r : PortRec) : Prop where
  counters : r.sheetsFed = r.sheetsGood + r.sheetsSpoiled + BitVec.ofNat 32 r.inFlight.length
  inFlight : r.inFlight.length ≤ 4
  tags     : r.inFlight.map (fun e => e.tag)
               = (List.range r.inFlight.length).map fun k => r.tagCounter - BitVec.ofNat 8 (r.inFlight.length - k)
  open'    : ∀ e ∈ r.inFlight, e.disposition = none
  depth    : ∀ i, r.identity = some i → 1 ≤ i.pathDepth ∧ i.pathDepth ≤ 4
  buffer   : r.buffer.length ≤ 2
  room     : r.fetch.isSome = true → r.buffer.length ≤ 1

/-- The law of the life counters on every port. -/
def State.PortsCounted (s : State) : Prop := ∀ p, (s.port p).Counted

/-! ## The meter, the alert records, the locks -/

/-- An account's fields lie in their ranges, and what is reserved never exceeds the balance (R132, R134). -/
structure AccountRec.Covered (r : AccountRec) : Prop where
  reserved  : r.reserved ≤ r.balance
  balance   : r.balance ≤ max32
  scale     : r.scale ≤ 255
  threshold : r.lowThreshold ≤ max32
  total     : r.chargedTotal ≤ max32
  sheets    : r.periodSheets ≤ max32
  units     : r.periodUnits ≤ max32

/-- Every account is covered. -/
def State.AccountsCovered (s : State) : Prop := ∀ a, (s.account a).Covered

/-- An alert record is of the form R151 and R158 give it: its repeat timer runs in an unacked state with due no and is
stopped otherwise, a jam location is present for kind JAM and absent otherwise, and a record without a kind is IDLE. -/
structure AlertRec.Legal (r : AlertRec) : Prop where
  timer       : r.repeatTimer.isSome = true ↔ r.state.unacked = true ∧ r.due = false
  location    : r.location.isSome = true ↔ r.kind = some .jam
  kind        : r.kind = none → r.state = .idle
  occurrences : 1 ≤ r.occurrences ∧ r.occurrences ≤ 255

/-- Every alert record is legal. -/
def State.AlertsLegal (s : State) : Prop := ∀ p, (s.alert p).Legal

/-- The law of R123: a job that holds a finisher lock is the claimed job of the port it holds it with, and that port
names the lock's unit. -/
def State.LocksHeld (s : State) : Prop :=
  ∀ f j p, s.lock f = .job j p → s.claim p = some j ∧ (s.entry p).finisher = some f

/-! ## The binder -/

/-- Job a stands before job b in a run queue (R66): its priority number is lower, or the priorities are equal and its place in
the bind order is earlier. -/
def State.StandsBefore (s : State) (a b : JobSlot) : Prop :=
  ∃ x y, s.slot a = some x ∧ s.slot b = some y ∧ (x.priority < y.priority
    ∨ (x.priority = y.priority ∧ s.binder.bindOrder.idxOf a < s.binder.bindOrder.idxOf b))

/-- The binder compares two jobs by their priorities and their places in the bind order (R66). -/
def State.ComparesByR66 (s : State) : Prop :=
  ∀ a b, s.slot a ≠ none → s.slot b ≠ none → (s.queueBefore a b = true ↔ s.StandsBefore a b)

/-- Job j has joined a list at its place (R66): behind every job of the list that it does not stand before, up to the first
that it stands before; the others keep their order. -/
def State.Joins (s : State) (j : JobSlot) (before after : List JobSlot) : Prop :=
  ∃ a b, before = a ++ b ∧ after = a ++ j :: b ∧ (∀ k ∈ a, s.queueBefore j k = false)
    ∧ ∀ k, b.head? = some k → s.queueBefore j k = true

/-- Job j passes tests 1 to 4 of the startable rule (R100), in whatever queue it stands: it is live, not held, not
credit-stopped and not cancelled, its feed cursor stands on a sheet, and its account covers that sheet. -/
def State.PassesTests (s : State) (j : JobSlot) : Prop :=
  ∃ r b, s.live j = some r ∧ r.held = false ∧ r.creditStopped = false ∧ r.cancel = none ∧ r.feed.next = some b
    ∧ (s.account r.account).covers (s.costAt r.account b) = true

/-- The laws of the binder (R10, R65, R66, R67): every live job stands in exactly one of the unbound list and one port's run
queue, as its print phase and bound port say; the lists hold no slot twice, a queue holds at most 8 jobs in the order of
R66, and the bind order holds the jobs of the queues; a claimed job stands in its port's queue, a port out of service holds
no claim, the queue of a port in ABSENT or OFFLINE is empty (R70), a run is open only for a claimed job, and the ended list
holds the finished jobs, each once (R10). -/
structure State.Bound (s : State) : Prop where
  unboundOnce : s.binder.unbound.Nodup
  queueOnce   : ∀ p, (s.queue p).Nodup
  orderOnce   : s.binder.bindOrder.Nodup
  order       : ∀ j, j ∈ s.binder.bindOrder ↔ ∃ p, j ∈ s.queue p
  room        : ∀ p, (s.queue p).length ≤ 8
  unbound     : ∀ j ∈ s.binder.unbound, ∃ r, s.live j = some r ∧ r.phase = .unbound ∧ r.boundPort = none
  queued      : ∀ p, ∀ j ∈ s.queue p, ∃ r, s.live j = some r ∧ r.boundPort = some p
                  ∧ r.phase = if s.claim p = some j then .claimed else .queued
  placed      : ∀ j r, s.live j = some r → j ∈ s.binder.unbound ∨ ∃ p, j ∈ s.queue p
  claims      : ∀ p j, s.claim p = some j → j ∈ s.queue p
  served      : ∀ p, s.claim p ≠ none →
                  (s.port p).state ≠ .absent ∧ (s.port p).state ≠ .offline ∧ (s.port p).state ≠ .probing
  away        : ∀ p, (s.port p).state = .absent ∨ (s.port p).state = .offline → s.queue p = []
  runs        : ∀ p, (s.port p).runOpen = true → s.claim p ≠ none
  endedOnce   : s.jobs.ended.Nodup
  ended       : ∀ j, j ∈ s.jobs.ended ↔ ∃ r, s.slot j = some r ∧ r.outcome ≠ none
  sorted      : ∀ p, (s.queue p).Pairwise s.StandsBefore

/-! ## The ledger -/

/-- The account that an in-flight entry is charged to: that of its job. -/
def State.payer (s : State) (e : InFlight) : Option Account := (s.slot e.job).map fun r => r.account

/-- The in-flight entries, on every port, whose job is charged to an account. -/
def State.entriesOf (s : State) (a : Account) : List InFlight :=
  allPorts.flatMap fun p => (s.port p).inFlight.filter fun e => decide (s.payer e = some a)

/-- What an entry holds reserved on its account. -/
def InFlight.held (e : InFlight) : Nat := if e.costReserved then e.cost else 0

/-- The laws of the meter (R134, R138) and of the in-flight lists (R106): an account's in-flight sheets are the entries
charged to it, its reserved is the sum of what they hold, an entry holds a reservation when its account is limited, and
every entry belongs to the job that its port has claimed and runs. -/
structure State.Ledger (s : State) : Prop where
  sheets   : ∀ a, (s.account a).inFlight = (s.entriesOf a).length
  reserved : ∀ a, (s.account a).reserved = ((s.entriesOf a).map InFlight.held).sum
  limited  : ∀ a, ∀ e ∈ s.entriesOf a, e.costReserved = !(s.account a).unlimited
  owner    : ∀ p, ∀ e ∈ (s.port p).inFlight, s.claim p = some e.job ∧ (s.port p).runOpen = true

/-! ## The intake unit -/

/-- The laws of the intake slots and of the write list (R42, R43, R50, R55). Each receiving job holds one slot, no other job
holds one, and none of them is cancelled; a slot without an open sheet counts no blocks; the list holds at most 4
entries, writes of 1 to 1,024 bytes inside their block and close marks that still have an entry of their job before
them and none behind; a granted write stands at the front, only such a write is void, and any other entry is of a
receiving job; a job's next sheet does not open while its close mark waits. The unit is stalled while the front frame
needs a block and the pool is empty, and its stall timer runs just then (R56, R57). -/
structure State.IntakeLegal (s : State) : Prop where
  held      : ∀ i x, tget s.intake.slots i = some x → ∃ r, s.live x.job = some r ∧ r.intake = .receiving
  once      : ∀ i k x y, tget s.intake.slots i = some x → tget s.intake.slots k = some y → x.job = y.job → i = k
  receiving : ∀ j r, s.live j = some r → r.intake = .receiving →
                r.cancel = none ∧ ∃ i x, tget s.intake.slots i = some x ∧ x.job = j
  shut      : ∀ i x, tget s.intake.slots i = some x → x.openSheet = none → x.sheetBlocks = 0 ∧ x.tailOffset = 0
  opened    : ∀ i x, tget s.intake.slots i = some x → x.openSheet ≠ none →
                1 ≤ x.sheetBlocks ∧ x.sheetBlocks ≤ 65535 ∧ x.tailOffset ≤ 2048 ∧ s.listHasMark x.job = false
  waits     : ∀ i x, tget s.intake.slots i = some x → x.openSheet = none → s.listHas x.job = true →
                s.listHasMark x.job = true
  room      : s.intake.writeList.length ≤ 4
  granted   : s.spool.granted = some .write → ∃ j b off bytes v, s.intake.writeList.head? = some (.write j b off bytes v)
  front     : ∀ j b off bytes, .write j b off bytes false ∈ s.intake.writeList → ∃ r, s.live j = some r
  mine      : ∀ e ∈ s.intake.writeList.drop (if s.spool.granted = some .write then 1 else 0),
                ∃ i x, tget s.intake.slots i = some x ∧ e.isOf x.job = true
  sizes     : ∀ j b off bytes v, .write j b off bytes v ∈ s.intake.writeList →
                1 ≤ bytes.length ∧ bytes.length ≤ 1024 ∧ off + bytes.length ≤ 2048
  marks     : ∀ a j b m1 m2 m c, s.intake.writeList = a ++ .mark j b m1 m2 m :: c →
                (∃ e ∈ a, e.isOf j = true) ∧ ∀ e ∈ c, e.isOf j = false
  payloads  : ∀ f ∈ s.link.intakeBuf, f.payload.length ≤ payloadLimit f.kind
  stalled   : s.intake.stalled = if s.spool.pool = [] then s.blockWanted else none
  timer     : s.intake.stallTimer.isSome = s.intake.stalled.isSome

/-! ## The spool and the cursors -/

/-- One position stands before another: by copy, then by sheet, every position before the end position (R17). -/
def Pos.before : Pos → Pos → Prop
  | .at c n, .at c' n' => c < c' ∨ (c = c' ∧ n < n')
  | .at _ _, .endPos => True
  | .endPos, _ => False

/-- The blocks of the chain of the job in slot j; none for a free slot. -/
def State.chainOf (s : State) (j : JobSlot) : List Block :=
  match s.slot j with
  | some r => s.chain r
  | none => []

/-- A live job goes on while no run of it is open: its cancel requested is not set and it is not done (R8). -/
def Job.GoesOn (r : Job) : Prop := r.cancel = none ∧ ¬ (r.intake = .complete ∧ r.copiesDone = r.copies)

/-- The law of a job's cursors (R17, R19): the confirm cursor never stands after the feed cursor; each stands on a sheet
received, at the intake edge, or at the end position, and the feed cursor waits at the edge only while the job is
RECEIVING; it has a next block only where it stands on a sheet; copies done counts the copies before the confirm
cursor and never exceeds copies. -/
structure Job.CursorsLegal (r : Job) : Prop where
  copies    : 1 ≤ r.copies ∧ r.copiesDone ≤ r.copies
  order     : ¬ r.feed.pos.before r.confirm
  feed      : ∀ c n, r.feed.pos = .at c n → 1 ≤ c ∧ c ≤ r.copies ∧ 1 ≤ n
                ∧ (n ≤ r.received ∨ (c = 1 ∧ n = r.received + 1 ∧ r.intake = .receiving))
  next      : ∀ b, r.feed.next = some b → ∃ c n, r.feed.pos = .at c n ∧ n ≤ r.received
  confirm   : ∀ c n, r.confirm = .at c n → c = r.copiesDone + 1 ∧ c ≤ r.copies ∧ 1 ≤ n
                ∧ (n ≤ r.received ∨ (c = 1 ∧ n = r.received + 1 ∧ r.intake ≠ .complete))
  done      : r.confirm = .endPos → r.copiesDone = r.copies ∧ r.intake = .complete
  first     : r.intake ≠ .complete → ∃ n, r.confirm = .at 1 n
  receiving : r.intake = .receiving → ∃ n, r.feed.pos = .at 1 n
  broken    : r.intake ≠ .receiving → r.intake ≠ .complete → r.cancel ≠ none

/-- The law of the free pool and the chains (R12, R9, R13): the pool and the chains of all jobs hold each of the 65,536
blocks exactly once, a chain ends at its job's tail, and a job that has ended has no chain. -/
structure State.Chained (s : State) : Prop where
  blocks : (s.spool.pool ++ allSlots.flatMap s.chainOf).Perm (List.range 65536)
  tail   : ∀ j r, s.slot j = some r → r.tail = (s.chain r).getLast?
  last   : ∀ j r b, s.slot j = some r → r.tail = some b → (s.blockLink b).next = none
  ended  : ∀ j r, s.slot j = some r → r.outcome ≠ none → r.head = none

/-- Runs of blocks are closed sheets, numbered from n on: the first block of each carries the sheet-start record with its
number and its block count, and no other block carries one (R15). -/
def State.Sheets (s : State) : Nat → List (List Block) → Prop
  | _, [] => True
  | n, sheet :: rest =>
    (∃ b bs st, sheet = b :: bs ∧ (s.blockLink b).sheet = some st ∧ st.number = n ∧ st.count = sheet.length
      ∧ ∀ c ∈ bs, (s.blockLink c).sheet = none)
    ∧ s.Sheets (n + 1) rest

/-- The number of the oldest sheet that a job's chain still holds: 1, or for a release-behind job the sheet at the confirm
cursor (R16, R21). -/
def Job.oldest (r : Job) : Nat :=
  if r.releaseBehind then
    match r.confirm with
    | .at _ n => n
    | .endPos => r.received + 1
  else 1

/-- What follows the closed sheets on the chain of a receiving job, by its intake slot (R42): the blocks of the open sheet,
as many as the slot counts; else those of the sheet whose close mark waits; else none. -/
def State.OpenPart (s : State) (x : IntakeSlot) (rest : List Block) : Prop :=
  (∀ b, x.openSheet = some b → rest.head? = some b ∧ rest.length = x.sheetBlocks)
  ∧ (∀ b m1 m2 m, .mark x.job b m1 m2 m ∈ s.intake.writeList → rest.head? = some b)
  ∧ (x.openSheet = none → s.listHasMark x.job = false → rest = [])

/-- The law of the cursors over the chains (R15, R16, R17): a live job's chain is its closed sheets in order, from the
oldest it still holds to the last received, and behind them blocks without a record; the feed cursor's next block is
the first block of the sheet it names, present exactly where it stands on a sheet; every job's cursors are lawful, and a
sheet in flight lies before its job's feed cursor. A live job that is done, or whose cancel requested is set, has an open
run: any other such job has ended (R8). -/
structure State.CursorsHeld (s : State) : Prop where
  chain   : ∀ j r, s.live j = some r → ∃ sheets rest, s.chain r = sheets.flatten ++ rest
              ∧ s.Sheets r.oldest sheets ∧ r.oldest + sheets.length = r.received + 1
              ∧ (∀ c ∈ rest, (s.blockLink c).sheet = none)
              ∧ ∀ i x, tget s.intake.slots i = some x → x.job = j → s.OpenPart x rest
  next    : ∀ j r, s.live j = some r → r.feed.next = match r.feed.pos with
              | .at _ n => if n ≤ r.received then s.findSheet r n else none
              | .endPos => none
  stands  : ∀ j r c n, s.live j = some r → r.feed.pos = .at c n → n ≤ r.received → r.feed.next ≠ none
  once    : ∀ j r, s.slot j = some r → r.releaseBehind = true → r.copies = 1
  cursors : ∀ j r, s.slot j = some r → r.CursorsLegal
  flying  : ∀ p, ∀ e ∈ (s.port p).inFlight, ∀ r, s.slot e.job = some r →
              1 ≤ e.sheet ∧ e.sheet ≤ r.received ∧ (Pos.at e.copy e.sheet).before r.feed.pos
  goesOn  : ∀ j r, s.live j = some r → r.GoesOn ∨ s.runOpenFor j = true

/-! ## What the part does by itself at the end of an event -/

/-- What the end of an event may do to a port's run state: nothing, or the port, which stood in READY or STANDBY with no
command outstanding, starts a run or warms its printer (R89, R102). -/
def PortRec.Starts (a b : PortRec) : Prop :=
  (b.state = a.state ∧ b.outstanding = a.outstanding ∧ b.answerTimer = a.answerTimer ∧ b.runOpen = a.runOpen
      ∧ b.executing = a.executing ∧ b.goodExits = a.goodExits ∧ b.endSent = a.endSent ∧ b.haltSent = a.haltSent
      ∧ b.gapTimer = a.gapTimer ∧ b.warmLimitTimer = a.warmLimitTimer ∧ b.warmInterval = a.warmInterval)
  ∨ (a.state = .ready ∧ a.outstanding = none
      ∧ b.state = .running ∧ b.outstanding = some .run ∧ b.answerTimer = some 250 ∧ b.runOpen = true
      ∧ b.executing = false ∧ b.goodExits = 0 ∧ b.endSent = false ∧ b.haltSent = false ∧ b.gapTimer = none
      ∧ b.warmLimitTimer = a.warmLimitTimer ∧ b.warmInterval = a.warmInterval)
  ∨ (a.state = .standby ∧ a.outstanding = none
      ∧ b.state = .waking ∧ b.outstanding = some .warm ∧ b.answerTimer = some 250 ∧ b.runOpen = a.runOpen
      ∧ b.executing = a.executing ∧ b.goodExits = a.goodExits ∧ b.endSent = a.endSent ∧ b.haltSent = a.haltSent
      ∧ b.gapTimer = a.gapTimer ∧ b.warmLimitTimer.isSome = true)

/-- What the end of an event may do to a port: it starts or warms, a pending DEMAND is served with its front block (R110),
a fetch request is placed or granted (R107, R108), the standby timer follows the port's idleness (R88). Every other
field of its record stands: identity, rest depth and the mode of the outstanding REST, offline pending, the tag
counter, the life counters, and the end, warm, sense retry, fault-poll and absent-probe timers. -/
structure PortRec.Settles (a b : PortRec) : Prop where
  rest    : b = { a with
              state := b.state, outstanding := b.outstanding, answerTimer := b.answerTimer, runOpen := b.runOpen,
              executing := b.executing, goodExits := b.goodExits, endSent := b.endSent, haltSent := b.haltSent,
              gapTimer := b.gapTimer, warmLimitTimer := b.warmLimitTimer, warmInterval := b.warmInterval,
              standbyTimer := b.standbyTimer, buffer := b.buffer, inFlight := b.inFlight,
              pendingDemand := b.pendingDemand, fetch := b.fetch }
  starts  : a.Starts b
  demand  : (b.buffer = a.buffer ∧ b.inFlight = a.inFlight ∧ b.pendingDemand = a.pendingDemand)
              ∨ (a.pendingDemand = true ∧ b.pendingDemand = false ∧ ∃ h, a.buffer = h :: b.buffer
                  ∧ (∃ e ∈ a.inFlight, e.tag = h.owner)
                  ∧ b.inFlight = a.inFlight.map fun e => if e.tag = h.owner then { e with sent := e.sent + 1 } else e)
  fetch   : b.fetch = a.fetch ∨ (∃ f, a.fetch = some f ∧ b.fetch = some { f with granted := true })
              ∨ ((a.fetch = none ∨ b.state ≠ a.state) ∧ ∀ f, b.fetch = some f → f.discard = false)
  standby : b.standbyTimer = a.standbyTimer ∨ b.standbyTimer = none ∨ (b.state = .ready ∧ b.outstanding = none)

/-- What the end of an event may do to a job's record: its port may claim it, which moves its cursors by R20 (R67). -/
def Job.Settles (a b : Job) : Prop :=
  b = { a with phase := b.phase, lastPort := b.lastPort, feed := b.feed, confirm := b.confirm }

/-- The end of an event takes a state u to t: ports claim, warm and start, blocks move, spool memory is granted, the
stall and the standby timers follow their conditions, and the transmitter takes a frame. Everything else stands. -/
structure State.EndOfEvent (u t : State) : Prop where
  spool    : t.spool.pool = u.spool.pool ∧ t.spool.links = u.spool.links ∧ t.spool.mem = u.spool.mem
               ∧ t.spool.ranks = u.spool.ranks
  granted  : u.spool.granted ≠ none → t.spool.granted = u.spool.granted
  binder   : t.binder.routes = u.binder.routes ∧ t.binder.unbound = u.binder.unbound ∧ t.binder.queues = u.binder.queues
               ∧ t.binder.bindOrder = u.binder.bindOrder
  claims   : ∀ p, t.claim p = u.claim p ∨ (u.claim p = none ∧ ∃ j ∈ u.queue p, t.claim p = some j)
  locks    : ∀ f, t.lock f = u.lock f
               ∨ ∃ j p, t.lock f = .job j p ∧ t.claim p = some j ∧ (u.entry p).finisher = some f
  tables   : t.table = u.table ∧ t.control = u.control
  meter    : t.meter = u.meter
  ports    : ∀ p, (u.port p).Settles (t.port p)
  jobs     : ∀ j, (∃ r r', u.slot j = some r ∧ t.slot j = some r' ∧ r.Settles r')
               ∨ (t.slot j = none ∧ (u.slot j = none ∨ u.jobs.ended.head? = some j))
  ended    : (t.jobs.ended = u.jobs.ended ∧ ∀ j, t.slot j = none → u.slot j = none)
               ∨ ∃ j, u.jobs.ended = j :: t.jobs.ended ∧ t.slot j = none
                   ∧ ∀ k, k ≠ j → t.slot k = none → u.slot k = none
  alerts   : ∀ p, t.alert p = { u.alert p with due := (t.alert p).due, repeatTimer := (t.alert p).repeatTimer }
  notices  : t.notices.mask = u.notices.mask
               ∧ (t.notices.events = u.notices.events ∨ t.notices.events = u.notices.events.tail)
               ∧ (t.notices.reports = u.notices.reports ∨ t.notices.reports = u.notices.reports.tail)
  link     : t.link.state = u.link.state ∧ t.link.intakeBuf = u.link.intakeBuf ∧ t.link.controlBuf = u.link.controlBuf
               ∧ t.link.target = u.link.target ∧ t.link.flags = u.link.flags
               ∧ (t.link.replies = u.link.replies ∨ t.link.replies = u.link.replies.tail)
               ∧ (u.link.tx ≠ none → t.link.tx = u.link.tx)
  intake   : t.intake.slots = u.intake.slots ∧ t.intake.writeList = u.intake.writeList
  press    : ∃ ms, t.pressOut = u.pressOut ++ ms
  pending  : t.pending = u.pending

/-! ## The free pool -/

/-- A record whose job has taken block b (R13): the chain's tail is b, and its head is b when the chain was empty. -/
def Job.joined (r : Job) (b : Block) : Job := { r with head := if r.tail = none then some b else r.head, tail := some b }

/-- From s to u, block b has joined the chain of the record r (R11, R13): its link record is fresh, it follows the old tail,
and every other link record stands. -/
def State.LinksJoined (s u : State) (r : Job) (b : Block) : Prop :=
  s.Stored → (r.tail ≠ some b → u.blockLink b = ⟨none, 0, none⟩)
    ∧ (∀ t, r.tail = some t → t ≠ b → u.blockLink t = { s.blockLink t with next := some b })
    ∧ ∀ k, k ≠ b → r.tail ≠ some k → u.blockLink k = s.blockLink k

/-! ## Frames -/

/-- The sum of the 16-bit words that bytes form, the earlier byte of two the more significant, an odd last byte paired with a
zero byte (R29). -/
def wordSum : List Byte → Nat
  | a :: b :: rest => a.toNat * 256 + b.toNat + wordSum rest
  | [a] => a.toNat * 256
  | [] => 0

/-- The code of an inbound kind (12.1). -/
def FrameKind.code : FrameKind → Nat
  | .openK => 1
  | .dataK => 2
  | .markK => 3
  | .closeK => 4
  | .abandonK => 5
  | .controlK => 6

/-- The header and payload of an inbound frame as they cross the link, with five flag bits that nothing reads (12.1,
R181). -/
def Frame.body (f : Frame) (flags : Fin 32) : List Byte :=
  be 1 f.kind.code ++ be 1 f.station.val ++ be 2 f.tag.toNat ++ [f.seq, f.request]
    ++ be 2 (flags.val * 2048 + f.payload.length) ++ f.payload

/-- An inbound frame's bytes: header, payload, and the check of R29. -/
def Frame.wire (f : Frame) (flags : Fin 32) : List Byte := f.body flags ++ be 2 (frameCheck (f.body flags))

/-- The FLOW frame of a state (R34, 12.4). -/
def flowFrame (f : Flow) : OutFrame := { kind := .flowK, station := 0, tag := 0, request := 0, payload := [f.code] }

/-- The REPLY frame of a reply (R40, R181). -/
def Reply.frame (r : Reply) : OutFrame :=
  { kind := .replyK, station := r.station, tag := r.tag, request := r.request, payload := r.payload }

/-- These bytes stand for an optional field of k bytes (12.4): 1 and its value, or 0 and k bytes, which the spec leaves
open (log 9). -/
def OptionalField (k : Nat) (value : Option (List Byte)) (bytes : List Byte) : Prop :=
  match value with
  | some v => bytes = 1 :: v
  | none => ∃ rest, rest.length = k ∧ bytes = 0 :: rest

/-- These bytes stand for a cursor (12.4): its copy and sheet, or copy 0 and two bytes that the spec leaves open at the end
position (log 9); two bytes are left open too for sheet 65,536, which does not fit in them (log 37). -/
def CursorField (pos : Pos) (bytes : List Byte) : Prop :=
  match pos with
  | .at c n => if n < 65536 then bytes = be 2 c ++ be 2 n else ∃ x y, bytes = be 2 c ++ [x, y]
  | .endPos => ∃ x y, bytes = [0, 0, x, y]

/-! ## Commands by kind -/

/-- The request code that a command executes (R182); none for a command that is no request of the catalogue. -/
def requestOf : Instr → Option Nat
  | .jobQuery => some 1
  | .hold => some 2
  | .release => some 3
  | .cancel => some 4
  | .move => some 5
  | .priority => some 6
  | .purge => some 7
  | .routeWrite => some 8
  | .routeRead => some 9
  | .queueRead => some 10
  | .unboundRead => some 11
  | .portTableWrite => some 12
  | .portTableRead => some 13
  | .portQuery => some 14
  | .portOffline => some 15
  | .portOnline => some 16
  | .portProbe => some 17
  | .portReset => some 18
  | .pacingWrite => some 19
  | .pacingRead => some 20
  | .rankWrite => some 21
  | .rankRead => some 22
  | .finisherLock => some 23
  | .finisherUnlock => some 24
  | .finisherRead => some 25
  | .accountWrite => some 26
  | .accountCredit => some 27
  | .accountSetBalance => some 28
  | .accountRead => some 29
  | .rateWrite => some 30
  | .rateRead => some 31
  | .alertAck => some 32
  | .alertRead => some 33
  | .maskWrite => some 34
  | .maskRead => some 35
  | .stationWrite => some 36
  | .stationRead => some 37
  | .settingsWrite => some 38
  | .settingsRead => some 39
  | .setClock => some 40
  | .status => some 41
  | .clearStatus => some 42
  | .deviceReset _ | .linkUp | .linkDown | .frameArrives _ | .openFrame | .dataFrame | .markFrame | .closeFrame
  | .abandonFrame | .stallTimerExpiry | .writeCompletes | .fetchLands | .frameTransmitted | .shopClockTick
  | .identityResult _ _ | .senseResult _ _ | .taken _ | .refuse _ | .demand _ | .feed _ _ | .exit _ _ _
  | .result _ _ | .readyChange _ _ _
  | .answerTimerExpiry _ | .endTimerExpiry _ | .standbyTimerExpiry _ | .warmTimerExpiry _
  | .warmLimitTimerExpiry _ | .senseRetryTimerExpiry _ | .faultPollTimerExpiry _ | .absentProbeTimerExpiry _
  | .transitTimerExpiry _ _ | .pacingGapTimerExpiry _ | .repeatTimerExpiry _ | .meterPeriodTimerExpiry
  | .unknownRequest => none

/-- The job frame, other than OPEN, that a command takes (R45). -/
def frameTaken : Instr → Option FrameKind
  | .dataFrame => some .dataK
  | .markFrame => some .markK
  | .closeFrame => some .closeK
  | .abandonFrame => some .abandonK
  | _ => none

/-- A command is a device reset. -/
def isReset : Instr → Bool
  | .deviceReset _ => true
  | _ => false

/-! ## The effect of a command -/

/-- The front frame f of the control buffer carries this payload, its station holds MANAGE, and the reply queue has room:
the request is executed and passes test 1 of R172 (R32). -/
def State.Asks (s : State) (f : Frame) (payload : List Byte) : Prop :=
  s.link.controlBuf.head? = some f ∧ f.payload = payload ∧ s.link.replies.length < 4 ∧ s.permits f = true

/-- The link unit after a request: its frame has left the control buffer and its one reply stands at the back of the
reply queue (R32). -/
def LinkUnit.answered (l : LinkUnit) (r : Reply) : LinkUnit :=
  { l with controlBuf := l.controlBuf.tail, replies := l.replies ++ [r] }

/-- The link unit after its front frame is taken: the flow target becomes GO when the count falls from 5 to 4 (R33). -/
def LinkUnit.taken (l : LinkUnit) : LinkUnit :=
  { l with
    intakeBuf := l.intakeBuf.tail
    target := if l.intakeBuf.length = 5 then .go else l.target }

/-- A request that changes neither jobs nor ports takes s to the state u, after which the stall is settled and the
transmitter makes its choice. -/
def Settles (c : Instr) (s u : State) : Prop := exec c s = .next u.linkClosing

/-- A command takes s to some state of which P holds, after which the part acts by itself as at the end of every
event. -/
def Leads (c : Instr) (s : State) (P : State → Prop) : Prop := ∃ u, exec c s = .next (State.closing s u) ∧ P u

/-- A request is refused with a code: its one reply is its whole effect (R172). -/
def Refused (c : Instr) (code : Nat) (s : State) (f : Frame) (why : ReplyCode) : Prop :=
  ∃ u, u = { s with link := s.link.answered (controlReply f why code []) }
    ∧ (exec c s = .next u.linkClosing ∨ exec c s = .next (State.closing s u))

/-- A port's record at the sending of END: ENDING, with the end window of R84 unless it runs already (R104). -/
def PortRec.ends (r : PortRec) : PortRec :=
  { r with state := .ending, endSent := true, endTimer := some (r.endTimer.getD 30000) }

/-- The state with END sent by port p (R104). -/
def State.sendsEnd (s : State) (p : Port) : State :=
  { s with ports := tset s.ports p (s.port p).ends, pressOut := s.pressOut ++ [(p, .endRun)] }

/-- The port that feeds job j is told to send END, at most once in a run (R104): from s to u, a port in RUNNING whose run
is in execution enters ENDING with its end timer running, and no other port changes. -/
def State.EndsFeeding (s u : State) (j : JobSlot) : Prop :=
  (∀ p, s.claimPort j = some p → (s.port p).state = .running → (s.port p).executing = true →
      (s.port p).endSent = false →
    u.port p = (s.port p).ends
    ∧ (∀ q, q ≠ p → u.port q = s.port q) ∧ u.pressOut = s.pressOut ++ [(p, .endRun)])
  ∧ ((∀ p, s.claimPort j = some p →
        (s.port p).state ≠ .running ∨ (s.port p).executing = false ∨ (s.port p).endSent = true) →
      u.ports = s.ports ∧ u.pressOut = s.pressOut)

/-- From s to u, job j has ended (R8, R9): with JOB-END enabled its record stands FINISHED in its slot, with its outcome,
its chain freed and its slot on the ended list, and P holds of it; with JOB-END disabled the slot is free. -/
def State.HasEnded (s u : State) (j : JobSlot) (P : Job → Prop) : Prop :=
  (s.notices.mask.jobEnd = false → u.slot j = none)
  ∧ (s.notices.mask.jobEnd = true → j ∈ u.jobs.ended ∧ ∃ r, u.slot j = some r ∧ r.phase = .finished
      ∧ r.boundPort = none ∧ r.head = none ∧ r.tail = none
      ∧ r.outcome = some (if r.intake = .complete ∧ r.copiesDone = r.copies then .done
          else if r.cancel = some .broken then .broken else .cancelled)
      ∧ P r)

/-- From s to u, a run of job j is no longer open: the job goes on, or it has ended (R8, R117). -/
def State.OutOfRun (s u : State) (j : JobSlot) : Prop :=
  (∃ r, u.live j = some r ∧ r.GoesOn) ∨ s.HasEnded u j fun r => ¬ r.GoesOn

/-- The feed cursor of a record after a rewind (R20). -/
def State.rewindsTo (s : State) (r : Job) : Cursor :=
  match r.confirm with
  | .endPos => ⟨.endPos, none⟩
  | .at c n =>
    if r.intake.reason ≠ none ∧ c = 1 ∧ n = r.received + 1 then ⟨.endPos, none⟩ else ⟨.at c n, s.findSheet r n⟩

/-- From s to u, the jobs js have left their run queues and the bind order and have joined the front of the unbound list
in their order, UNBOUND and without a bound port, and a re-examination has followed (R65, R68, R70, R71, R78). -/
def State.Displaces (s u : State) (js : List JobSlot) : Prop :=
  ∃ v : State, u = v.reexamine
    ∧ v.binder = { s.binder with
        unbound := js ++ s.binder.unbound
        queues := v.binder.queues
        bindOrder := s.binder.bindOrder.filter fun j => decide (j ∉ js) }
    ∧ (∀ q, v.queue q = (s.queue q).filter fun j => decide (j ∉ js))
    ∧ v.jobs.ended = s.jobs.ended
    ∧ ∀ j, v.slot j = (s.slot j).map fun r => if j ∈ js then { r with phase := .unbound, boundPort := none } else r

/-- From s to u, port p has entered ABSENT or OFFLINE (R70): its claim is released, the claimed job rewound or ended, and
the jobs left in its queue are displaced, w being the state between these two steps. What was in flight has been spoiled,
which may have cleared credit-stopped flags (R143). -/
structure State.LosesQueue (s u : State) (p : Port) : Prop where
  gone    : u.queue p = [] ∧ u.claim p = none
  claimed : ∀ j x, s.claim p = some j → s.live j = some x → (∀ q, s.claim q = some j → q = p) → s.OutOfRun u j
  moved   : ∃ w : State,
    ((∀ j x, s.claim p = some j → s.live j = some x → x.GoesOn) →
      w.binder = { s.binder with claims := tset s.binder.claims p none } ∧ w.jobs.ended = s.jobs.ended
      ∧ ∀ k r, s.slot k = some r → ∃ c, w.slot k = some
          (if s.claim p = some k then { r with phase := .queued, feed := s.rewindsTo r, creditStopped := c }
            else { r with creditStopped := c }))
    ∧ (∀ j x, s.claim p = some j → s.live j = some x → ¬ x.GoesOn → (∀ q, s.claim q = some j → q = p) →
        w.queue p = ((s.queue p).filter fun k => decide (k ≠ j)) ∧ w.binder.unbound.Sublist s.binder.unbound)
    ∧ (w.queue p = [] → u = w)
    ∧ (w.queue p ≠ [] → w.Displaces u (w.queue p))

/-- The port that sends END when its job is stopped: the port that feeds it, at most once in a run (R7, R104). -/
def State.endsAt (s : State) (j : JobSlot) : Option Port :=
  (s.claimPort j).filter fun p =>
    decide ((s.port p).state = .running) && (s.port p).executing && !(s.port p).endSent

/-- Job j is live and the test holds of it. -/
def State.stops (s : State) (test : JobSlot → Job → Bool) (j : JobSlot) : Bool := (s.live j).any (test j)

/-- Job j is stopped while no run of it is open, so that it ends at once (R8). -/
def State.stopsNow (s : State) (test : JobSlot → Job → Bool) (j : JobSlot) : Bool :=
  s.stops test j && !s.runOpenFor j

/-- How many entries at the front of the write list are granted (R43). -/
def State.grantedWrites (s : State) : Nat := if s.spool.granted = some .write then 1 else 0

/-- An entry of the write list belongs to no job that is stopped. -/
def State.spares (s : State) (test : JobSlot → Job → Bool) (e : WriteEntry) : Bool :=
  allSlots.all fun j => !(s.stops test j && e.isOf j)

/-- From s to u, the live jobs of which the test holds are stopped in ascending slot order (R4, R6, R7, R23, R55, R59): each
has its intake phase, and cancel requested with its reason, as given; one with an open run goes on and its port sends
END, any other ends at once, joins the ended list if JOB-END is enabled and returns its chain to the pool; a slot of
the intake unit that a stopped receiving job held is free, and its entries leave the write list, where the granted write
stays (void when its job has ended, R14) and the entries of the other jobs keep their order (R55). A job that is not
stopped is at most bound by a re-examination, and the rest of the machine, but for the link unit and the stall, stands. -/
structure State.StopsJobs (s u : State) (test : JobSlot → Job → Bool) (phase : Job → IntakePhase)
    (why : Job → CancelReason) : Prop where
  open'    : ∀ j r, s.live j = some r → test j r = true → s.runOpenFor j = true → ∃ r', u.live j = some r'
               ∧ r'.intake = phase r ∧ r'.cancel = some (why r) ∧ r'.received = r.received
               ∧ r'.delivered = r.delivered ∧ r'.charged = r.charged ∧ (r.intake = .receiving → r'.expected = none)
  ends     : ∀ j r, s.live j = some r → test j r = true → s.runOpenFor j = false → s.HasEnded u j fun r' =>
               r'.intake = phase r ∧ r'.cancel = some (why r) ∧ r'.received = r.received
               ∧ r'.delivered = r.delivered ∧ r'.charged = r.charged ∧ (r.intake = .receiving → r'.expected = none)
  others   : ∀ j r, s.slot j = some r → s.stops test j = false →
               ∃ r', u.slot j = some r' ∧ r' = { r with phase := r'.phase, boundPort := r'.boundPort }
  vacant   : ∀ j, s.slot j = none → u.slot j = none
  ended    : u.jobs.ended = s.jobs.ended ++
               if s.notices.mask.jobEnd then allSlots.filter (s.stopsNow test) else []
  pool     : u.spool.pool = s.spool.pool ++ (allSlots.filter (s.stopsNow test)).flatMap s.chainOf
  claims   : ∀ p, u.claim p = (s.claim p).filter fun j => !s.stopsNow test j
  locks    : ∀ f, u.lock f = match s.lock f with
               | .job j p => if s.stopsNow test j then .free else .job j p
               | h => h
  press    : u.pressOut = s.pressOut ++
               ((allSlots.filter (s.stops test)).filterMap s.endsAt).map fun p => (p, .endRun)
  feeding  : ∀ p j, s.stops test j = true → s.endsAt j = some p → u.port p = (s.port p).ends
  ports    : ∀ p, (∀ j, s.stops test j = true → s.endsAt j ≠ some p) → u.port p = s.port p
  slots    : ∀ i x, tget u.intake.slots i = some x → tget s.intake.slots i = some x
               ∧ ∀ r, s.live x.job = some r → r.intake = .receiving → s.stops test x.job = false
  kept     : ∀ i x, tget s.intake.slots i = some x → s.stops test x.job = false → tget u.intake.slots i = some x
  granted  : u.intake.writeList.take s.grantedWrites = (s.intake.writeList.take s.grantedWrites).map fun e =>
               match e with
               | .write j b off bytes v => .write j b off bytes (v || s.stopsNow test j)
               | .mark j b m1 m2 m => .mark j b m1 m2 m
  list     : (u.intake.writeList.drop s.grantedWrites).Sublist (s.intake.writeList.drop s.grantedWrites)
  listKept : (u.intake.writeList.drop s.grantedWrites).filter (s.spares test)
               = (s.intake.writeList.drop s.grantedWrites).filter (s.spares test)
  listLeft : ∀ e ∈ u.intake.writeList.drop s.grantedWrites, ∀ j r, s.live j = some r → test j r = true →
               r.intake = .receiving ∨ s.runOpenFor j = false → e.isOf j = false
  rest     : u.spool.links = s.spool.links ∧ u.spool.mem = s.spool.mem ∧ u.spool.granted = s.spool.granted
               ∧ u.spool.ranks = s.spool.ranks ∧ u.binder.routes = s.binder.routes ∧ u.table = s.table
               ∧ u.meter = s.meter ∧ u.alerts = s.alerts ∧ u.notices = s.notices ∧ u.control = s.control

/-- A port's record as it enters a state: the timers that end with a state are stopped (R84, R90, R92). -/
def PortRec.enters (r : PortRec) (st : PortState) : PortRec :=
  { r with
    state := st, endTimer := none, warmTimer := none, warmLimitTimer := none, senseRetryTimer := none,
    faultPollTimer := none }

/-- A port's record with its command answered: nothing is outstanding and the answer timer is stopped (R79, R80). -/
def PortRec.free (r : PortRec) : PortRec := { r with outstanding := none, answerTimer := none }

/-- A port's record with a command sent: it is outstanding and the answer timer runs for 250 ms (R79, R80). -/
def PortRec.sends (r : PortRec) (c : Command) : PortRec := { r with outstanding := some c, answerTimer := some 250 }

/-- A port's record after the entry of a tag has left its in-flight list: the blocks held for the entry have left the
buffer, a waiting request for one of its blocks is withdrawn and a granted one will be discarded (R106, R110). -/
def PortRec.resolved (r : PortRec) (tag : Byte) : PortRec :=
  { r with
    inFlight := r.inFlight.filter fun e => decide (e.tag ≠ tag)
    buffer := r.buffer.filter fun h => decide (h.owner ≠ tag)
    fetch := match r.fetch with
      | some f =>
        if f.owner ≠ tag then some f else if f.granted then some { f with discard := true } else none
      | none => none }

/-- From s to u, of the port records only that of port p has changed, to r. -/
def State.OnlyPort (s u : State) (p : Port) (r : PortRec) : Prop := u.port p = r ∧ ∀ q, q ≠ p → u.port q = s.port q

/-- From s to u, of the alert records only that of port p has changed, to r. -/
def State.OnlyAlert (s u : State) (p : Port) (r : AlertRec) : Prop :=
  u.alert p = r ∧ ∀ q, q ≠ p → u.alert q = s.alert q

/-- An alert record after a raise (R154): the identifying fields are replaced, the occurrences of an unacked record rise
by one up to 255 and its raised time stays, while an IDLE or ACTIVE-ACKED record begins again at 1 with the shop clock;
due becomes yes and the repeat timer stops. -/
def AlertRec.raisedAs (r : AlertRec) (k : AlertKind) (l : Option JamLocation) (j : Option (Station × Half))
    (x : Option (Nat × Nat)) (clock : Full) : AlertRec where
  state := .activeUnacked
  kind := some k
  location := l
  job := j
  position := x
  occurrences := if r.state = .activeUnacked ∨ r.state = .clearedUnacked then min 255 (r.occurrences + 1) else 1
  raised := if r.state = .activeUnacked ∨ r.state = .clearedUnacked then r.raised else clock
  due := true
  repeatTimer := none

/-- An alert record after COUNT-MISMATCH is raised in its condition-cleared form (R156): it is CLEARED-UNACKED, or
ACTIVE-UNACKED where it was active; the rest is as at a raise. -/
def AlertRec.mismatched (r : AlertRec) (j : Option (Station × Half)) (clock : Full) : AlertRec :=
  { r.raisedAs .countMismatch none j none clock with
    state := if r.state = .activeUnacked ∨ r.state = .activeAcked then .activeUnacked else .clearedUnacked }

/-- The record of port p after a raise that names its claimed job (R153, R154). -/
def State.raisedOn (s : State) (p : Port) (k : AlertKind) (l : Option JamLocation) (x : Option (Nat × Nat)) :
    AlertRec :=
  (s.alert p).raisedAs k l ((s.claimedJob p).map fun r => (r.station, r.tag)) x s.control.clock

/-- An alert record after a condition clear is reported (R157). -/
def AlertRec.afterClear (r : AlertRec) : AlertRec :=
  if r.state = .activeUnacked then { r with state := .clearedUnacked, due := true, repeatTimer := none }
  else if r.state = .activeAcked then { r with state := .idle, due := true, repeatTimer := none }
  else r

/-- A limited account's record at a new balance: the low check of R144 is made when the balance changes and a threshold
is set. -/
def AccountRec.rebalanced (r : AccountRec) (balance : Nat) : AccountRec :=
  { r with
    balance := balance
    lowArmed := if r.unlimited = false ∧ balance ≠ r.balance ∧ 0 < r.lowThreshold then
        decide (r.lowThreshold ≤ balance - r.reserved)
      else r.lowArmed }

/-- From s to u, the balance of account a has been written (R143, R144, R146, R147): the account is rebalanced, LOW is
recorded when an armed check finds less credit than the threshold, and a rise of a limited account's credit clears the
credit-stopped flag of its live jobs. -/
def State.Rebalances (s u : State) (a : Account) (balance : Nat) : Prop :=
  u.account a = (s.account a).rebalanced balance ∧ (∀ b, b ≠ a → u.account b = s.account b)
  ∧ u.meter.rates = s.meter.rates ∧ u.meter.periodTimer = s.meter.periodTimer
  ∧ u.notices = (if (s.account a).lowArmed = true ∧ ((s.account a).rebalanced balance).lowArmed = false then
      (s.recordLow a).notices else s.notices)
  ∧ u.jobs.ended = s.jobs.ended
  ∧ ∀ j, u.slot j = (s.slot j).map fun r =>
      if r.outcome = none ∧ r.account = a ∧ (s.account a).unlimited = false ∧ (s.account a).balance < balance then
        { r with creditStopped := false } else r

end Sys2Proof.Machine
end

