-- ==== Sys2Proof/Certificates/Slice0/Obligations.lean ====
section
/-! DEFINITION. The statements for the provers. A statement of a command's effect names the state it leads to, and with
it everything the command leaves unchanged; what the part then does by itself at the end of the event is said once, in
EndOfEventFrame, TransmitterChoice and ArbiterGrants. -/

open Sys2Proof
open Sys2Proof.Machine

/-! ## The machine as a whole -/

/-- A step takes the command at the front of the queue and runs it with the queue's rest; on an empty queue the block
idles (the second clause is the model's choice, log 11). -/
def Obligations.StepRunsFront : Prop :=
  (∀ (c : Instr) (s : State), step { s with pending := c :: s.pending } = exec c s)
  ∧ ∀ s : State, s.pending = [] → step s = .next s

/-- Every command answers a next state, and leaves the queue of waiting commands as it stands. The queue is the
model's own (log 29), a DEVICE RESET keeps it (log 28), and a command whose event cannot occur in the state leaves the
state as it stands (log 1): these three are the model's choices, not rules of the spec. -/
def Obligations.CommandsComplete : Prop :=
  ∀ (c : Instr) (s : State), ∃ t, exec c s = .next t ∧ t.pending = s.pending

/-- The state after a device reset: the values that the spec gives in every unit (R1, R12, R25, R36, R42, R43, R59,
R60, R76, R77, R97, R98, R99, R106, R107, R108, R109, R123, R132, R135, R149, R151, R170, R177), and every law of
Safety.lean. That spool memory lists no byte and the mode of the outstanding REST and the noted warm interval have
values is the model's choice (logs 3 and 4) and is not stated here. -/
def Obligations.ResetState : Prop :=
  let s := State.reset
  (s.link.state = .down ∧ s.link.intakeBuf = [] ∧ s.link.controlBuf = [] ∧ s.link.replies = [] ∧ s.link.target = .go
    ∧ s.link.lastFlow = none ∧ s.link.flags = {} ∧ s.link.tx = none)
  ∧ (∀ i, tget s.intake.slots i = none) ∧ s.intake.writeList = [] ∧ s.intake.stalled = none
  ∧ s.intake.stallTimer = none
  ∧ (∀ j, s.slot j = none) ∧ s.jobs.ended = [] ∧ s.spool.pool = List.range 65536
  ∧ (∀ b, s.blockLink b = ⟨none, 0, none⟩) ∧ s.spool.granted = none ∧ (∀ q : Requester, tget s.spool.ranks q = q.val)
  ∧ (∀ c, tget s.binder.routes c = 0) ∧ (∀ p, s.queue p = [] ∧ s.claim p = none) ∧ s.binder.unbound = []
  ∧ s.binder.bindOrder = []
  ∧ (∀ p, (s.port p).state = .probing ∧ (s.port p).outstanding = some .probe ∧ (s.port p).identity = none
      ∧ (s.port p).restDepth = none ∧ (s.port p).offlinePending = false
      ∧ (s.port p).tagCounter = 0 ∧ (s.port p).sheetsFed = 0 ∧ (s.port p).sheetsGood = 0
      ∧ (s.port p).sheetsSpoiled = 0 ∧ (s.port p).underruns = 0 ∧ (s.port p).strays = 0
      ∧ (s.port p).runOpen = false ∧ (s.port p).executing = false ∧ (s.port p).buffer = []
      ∧ (s.port p).inFlight = [] ∧ (s.port p).pendingDemand = false ∧ (s.port p).goodExits = 0
      ∧ (s.port p).endSent = false ∧ (s.port p).haltSent = false ∧ (s.port p).fetch = none
      ∧ (s.port p).gapTimer = none ∧ (s.port p).answerTimer = some 250 ∧ (s.port p).endTimer = none
      ∧ (s.port p).standbyTimer = none ∧ (s.port p).warmTimer = none ∧ (s.port p).warmLimitTimer = none
      ∧ (s.port p).senseRetryTimer = none ∧ (s.port p).faultPollTimer = none ∧ (s.port p).absentProbeTimer = none)
  ∧ (∀ p, s.entry p = ⟨true, 3, none, 0, .light, 3, 40⟩) ∧ (∀ c, tget s.control.pacing c = ⟨3000, 20000⟩)
  ∧ (∀ f, s.lock f = .free)
  ∧ (∀ a, s.account a = ⟨decide (a = 0), decide (a = 0), if a = 0 then 128 else 0, 0, 0, 0, 0, true, 0, 0, 0⟩)
  ∧ (∀ c, tget s.meter.rates c = ⟨0, 0⟩) ∧ s.meter.periodTimer = some 3600000
  ∧ (∀ p, s.alert p = ⟨.idle, none, none, none, none, 1, 0, false, none⟩)
  ∧ s.notices.mask = ⟨true, true, true, true⟩ ∧ s.notices.events = [] ∧ s.notices.reports = []
  ∧ (∀ i, tget s.control.stations i = ⟨true, decide (i = 0)⟩) ∧ s.control.settings = ⟨30, 60, 10, 10, 5, 120⟩
  ∧ s.control.clock = 0 ∧ s.pressOut = allPorts.map (fun p => (p, .probe))
  ∧ s.Stored ∧ s.TablesLegal ∧ s.link.Legal ∧ s.PortsConsistent ∧ s.PortsCounted ∧ s.AccountsCovered
  ∧ s.AlertsLegal ∧ s.LocksHeld ∧ s.Bound ∧ s.Ledger ∧ s.IntakeLegal ∧ s.Chained ∧ s.CursorsHeld

/-! ## Invariants that every step keeps -/

/-- Every step keeps spool memory, the link records and the notice sets in canonical form. -/
def Obligations.StoredKept : Prop := ∀ s t : State, s.Stored → step s = .next t → t.Stored

/-- Every step keeps the tables that management writes legal: a station with MANAGE is left, every rank is held
exactly once, every value lies in its range. -/
def Obligations.TablesKept : Prop := ∀ s t : State, s.TablesLegal → step s = .next t → t.TablesLegal

/-- Every step keeps the capacities of the link unit's buffers, the hysteresis of the flow target, and the emptiness
of a link that is DOWN. -/
def Obligations.LinkKept : Prop := ∀ s t : State, s.link.Legal → step s = .next t → t.link.Legal

/-- Every step keeps each port's state, outstanding command, run and timers in step with one another. -/
def Obligations.PortsKept : Prop := ∀ s t : State, s.PortsConsistent → step s = .next t → t.PortsConsistent

/-- Every step keeps the law of the life counters: sheets fed equals delivered plus spoiled plus in flight, modulo
2^32, with at most 4 entries in flight and 2 blocks held. -/
def Obligations.CountersKept : Prop := ∀ s t : State, s.PortsCounted → step s = .next t → t.PortsCounted

/-- Every step keeps what is reserved on an account within its balance, and its fields in range. -/
def Obligations.AccountsKept : Prop := ∀ s t : State, s.AccountsCovered → step s = .next t → t.AccountsCovered

/-- Every step keeps the alert records' form: the repeat timer runs exactly in an unacked state with due no. -/
def Obligations.AlertsKept : Prop := ∀ s t : State, s.AlertsLegal → step s = .next t → t.AlertsLegal

/-- Every step keeps the law of the finisher locks. -/
def Obligations.LocksKept : Prop := ∀ s t : State, s.LocksHeld → step s = .next t → t.LocksHeld

/-- Every step keeps the laws of the binder, in a state whose ports are consistent: each live job stands in one list, as
its record says, and every run queue is in the order of R66, a lower priority number first and then the earlier place in
the bind order (State.Bound). -/
def Obligations.BinderKept : Prop :=
  ∀ s t : State, s.PortsConsistent → s.Bound → step s = .next t → t.Bound

/-- Every step keeps the meter's ledger: an account's in-flight sheets and reserved are what the entries in flight on
all ports say, in a state whose ports are consistent and counted and whose binder is lawful. -/
def Obligations.LedgerKept : Prop :=
  ∀ s t : State, s.PortsConsistent → s.PortsCounted → s.Bound → s.Ledger → step s = .next t → t.Ledger

/-- Every step keeps the laws of the intake slots, of the write list and of the stall (R42, R43, R56, R57) and the law
of the free pool and the chains (R12), in a state whose records are in canonical form and whose binder is lawful. -/
def Obligations.IntakeAndPoolKept : Prop :=
  ∀ s t : State, s.Stored → s.Bound → s.IntakeLegal → s.Chained → step s = .next t → t.IntakeLegal ∧ t.Chained

/-- Every step keeps the law of the sheets on the chains and of the cursors (R15, R16, R17), in a state that meets the
laws it leans on: canonical records, consistent and counted ports, a lawful binder, ledger, intake unit and pool. With
it goes the law of the job end (R8): no live job is done or cancelled without an open run, so that a RESULT, a refused
RUN, NO-ANSWER, PORT RESET and a displacement end the job that they leave so. -/
def Obligations.CursorsKept : Prop :=
  ∀ s t : State, s.Stored → s.PortsConsistent → s.PortsCounted → s.Bound → s.Ledger → s.IntakeLegal → s.Chained →
    s.CursorsHeld → step s = .next t → t.CursorsHeld

/-! ## Rules of the whole machine -/

/-- Each table and the shop clock change only at their own write, at the clock's tick, and at a device reset; a port's
identity only at an identity result (R62); the bytes of spool memory only at the completion of a write (R14, R50); and
only CLEAR STATUS and a device reset clear an intake flag (R35). -/
def Obligations.OnlyWritesChangeTables : Prop :=
  ∀ (c : Instr) (s t : State), exec c s = .next t → isReset c = false →
    (c ≠ .stationWrite → t.control.stations = s.control.stations)
    ∧ (c ≠ .settingsWrite → t.control.settings = s.control.settings)
    ∧ (c ≠ .pacingWrite → t.control.pacing = s.control.pacing)
    ∧ (c ≠ .setClock → c ≠ .shopClockTick → t.control.clock = s.control.clock)
    ∧ (c ≠ .portTableWrite → t.table = s.table)
    ∧ (c ≠ .routeWrite → t.binder.routes = s.binder.routes)
    ∧ (c ≠ .rankWrite → t.spool.ranks = s.spool.ranks)
    ∧ (c ≠ .rateWrite → t.meter.rates = s.meter.rates)
    ∧ (c ≠ .writeCompletes → t.spool.mem = s.spool.mem)
    ∧ (c ≠ .maskWrite → t.notices.mask = s.notices.mask)
    ∧ (∀ p, (∀ r, c ≠ .identityResult p r) → (t.port p).identity = (s.port p).identity)
    ∧ (c ≠ .clearStatus →
      (s.link.flags.frameCheck = true → t.link.flags.frameCheck = true)
      ∧ (s.link.flags.overrun = true → t.link.flags.overrun = true)
      ∧ (s.link.flags.controlOverrun = true → t.link.flags.controlOverrun = true)
      ∧ (s.link.flags.unknownJob = true → t.link.flags.unknownJob = true)
      ∧ (s.link.flags.notPermitted = true → t.link.flags.notPermitted = true))

/-- A frame that is built by 12.1 with the check of R29, whatever its flag bits, passes the frame check and is read
back field for field; and no other bytes pass it (R28): what passes is a frame built so, of a payload within the limit
of its kind. The check is the complement of the ones'-complement sum of the words (R29), which is the sum modulo
65,535, with 65,535 for 0 unless every word is 0. -/
def Obligations.FrameRoundTrip : Prop :=
  (∀ (f : Frame) (flags : Fin 32), f.payload.length ≤ payloadLimit f.kind → parseFrame (f.wire flags) = some f)
  ∧ (∀ (bytes : List Byte) (f : Frame), parseFrame bytes = some f →
      f.payload.length ≤ payloadLimit f.kind ∧ ∃ flags, bytes = f.wire flags)
  ∧ [FrameKind.openK, .dataK, .markK, .closeK, .abandonK, .controlK].map payloadLimit = [9, 1024, 3, 0, 0, 11]
  ∧ ∀ bytes : List Byte, frameCheck bytes =
      65535 - if wordSum bytes = 0 then 0 else (wordSum bytes - 1) % 65535 + 1

/-! ## The end of an event -/

/-- What the part does by itself at the end of an event changes what State.EndOfEvent says, and nothing else. It does
all that R100 to R102 ask: no port is left that could claim or start, a port in READY or STANDBY without an
outstanding command having no startable job to claim, or a claimed job that is not startable. A port that acts claims
the first startable job of its queue, which moves the job's cursors by R20 when the copy restarts and takes the
finisher lock it needs; a port in READY starts a run and one in STANDBY warms its printer (R89). That these reactions
come at the end of the event, in one order, is the model's reading (log 12); the order among several ports is free
(log 6). -/
def Obligations.EndOfEventFrame : Prop :=
  (∀ before u : State, u.EndOfEvent (State.closing before u) ∧ u.EndOfEvent u.linkClosing)
  ∧ (∀ (before u : State) (p : Port), (State.closing before u).wantsToAct p = false)
  ∧ (∀ (before u : State) (p : Port),
    let t := State.closing before u
    (t.port p).state = .ready ∨ (t.port p).state = .standby → (t.port p).outstanding = none →
      (t.claim p = none → ∀ j ∈ t.queue p, t.startable p j = false)
      ∧ ∀ j, t.claim p = some j → t.startable p j = false)
  ∧ (∀ (u : State) (p : Port) (j : JobSlot), u.startable p j = true ↔ j ∈ u.queue p ∧ ∃ r b, u.live j = some r
      ∧ r.held = false ∧ r.creditStopped = false ∧ r.cancel = none ∧ r.feed.next = some b
      ∧ (u.account r.account).covers (u.costAt r.account b) = true
      ∧ (r.finishing = .noFinish ∨ ∃ f, (u.entry p).finisher = some f
          ∧ (u.lock f = .free ∨ ∃ q, u.lock f = .job j q)))
  ∧ ∀ (u : State) (p : Port) (j : JobSlot) (r : Job), u.slot j = some r →
      let v := u.act p
      let warm : PortRec := { u.port p with
        state := .waking
        warmLimitTimer := some (u.control.settings.warmLimit * 1000)
        warmInterval := (if (u.port p).restDepth = some .light then (u.entry p).lightWarm
          else (u.entry p).deepWarm) * 1000 }
      let run : PortRec := { u.port p with
        state := .running, runOpen := true, executing := false, goodExits := 0, endSent := false, haltSent := false,
        gapTimer := none, fetch := none }
      (∀ a b, u.claim p = none → u.queue p = a ++ j :: b → (∀ k ∈ a, u.startable p k = false) →
        u.startable p j = true →
          v.claim p = some j ∧ (∀ q, q ≠ p → v.claim q = u.claim q ∧ v.port q = u.port q)
          ∧ (∀ k, k ≠ j → v.slot k = u.slot k)
          ∧ (∀ c n q, r.confirm = .at c n → r.lastPort = some q → r.releaseBehind = false → q ≠ p →
              v.slot j = some { r with
                feed := ⟨.at c 1, r.head⟩, confirm := .at c 1, lastPort := some p, phase := .claimed })
          ∧ (r.confirm = .endPos ∨ r.lastPort = none ∨ r.lastPort = some p ∨ r.releaseBehind = true →
              v.slot j = some { r with lastPort := some p, phase := .claimed } ∧ v.startable p j = true)
          ∧ (∀ f, v.lock f = if r.finishing ≠ .noFinish ∧ (u.entry p).finisher = some f then .job j p else u.lock f)
          ∧ ((u.port p).state = .ready → v.startable p j = true →
              v.port p = run.sends .run ∧ v.pressOut = u.pressOut ++ [(p, .run)])
          ∧ ((u.port p).state = .ready → v.startable p j = false →
              v.port p = u.port p ∧ v.pressOut = u.pressOut)
          ∧ ((u.port p).state = .standby → v.port p = warm.sends .warm ∧ v.pressOut = u.pressOut ++ [(p, .warm)]))
      ∧ (u.claim p = some j → u.startable p j = true →
          ((u.port p).state = .ready → v = { u with
            ports := tset u.ports p (run.sends .run), pressOut := u.pressOut ++ [(p, .run)] })
          ∧ ((u.port p).state = .standby → v = { u with
            ports := tset u.ports p (warm.sends .warm), pressOut := u.pressOut ++ [(p, .warm)] }))

/-- The transmitter's choice (R41, R34, R40, R168): while UP and free, a pending FLOW; else the oldest reply; else a
notice, ALERT of the lowest port due before JOB-END before ACCOUNT before METER; a notice carries the shop clock and
the fields of its kind (12.4); the ALERT's record is no longer due, and its repeat timer starts while it is unacked
(R158). Which bytes an absent alert kind, outcome or position occupies is left open (log 9). -/
def Obligations.TransmitterChoice : Prop :=
  (∀ (a : AlertRec) (n : Nat), a.sent n = { a with
    due := false
    repeatTimer := if a.state = .activeUnacked ∨ a.state = .clearedUnacked then some (n * 1000) else a.repeatTimer })
  ∧ ∀ u : State,
    (¬ (u.link.state = .up ∧ u.link.tx = none) → u.transmit = u)
    ∧ (u.link.state = .up → u.link.tx = none →
        (u.link.lastFlow ≠ some u.link.target →
          u.transmit = { u with
            link := { u.link with lastFlow := some u.link.target, tx := some (flowFrame u.link.target) } })
        ∧ (u.link.lastFlow = some u.link.target → ∀ r rest, u.link.replies = r :: rest →
          u.transmit = { u with link := { u.link with replies := rest, tx := some r.frame } })
        ∧ (u.link.lastFlow = some u.link.target → u.link.replies = [] →
            (∀ p, u.notices.mask.alert = true → (u.alert p).due = true → (∀ q, (u.alert q).due = true → p ≤ q) →
              (u.transmit.alert p) = (u.alert p).sent u.control.settings.alertRepeat
              ∧ ∃ kind place, (∀ k, (u.alert p).kind = some k → kind = k.code) ∧ place.length = 4
                ∧ (∀ c n, (u.alert p).position = some (c, n) → place = be 2 c ++ be 2 n)
                ∧ u.transmit.link.tx = some ⟨.noticeK, ((u.alert p).job.getD (0, 0)).1,
                    ((u.alert p).job.getD (0, 0)).2, 0,
                    [1] ++ be 4 u.control.clock.toNat ++ be 1 p.val
                      ++ [(u.alert p).state.code, kind, ((u.alert p).location.map JamLocation.code).getD 0]
                      ++ be 1 ((if (u.alert p).job = none then 0 else 1)
                          + (if (u.alert p).position = none then 0 else 2))
                      ++ place ++ be 1 (u.alert p).occurrences ++ be 4 (u.alert p).raised.toNat⟩)
            ∧ ((u.notices.mask.alert = false ∨ ∀ p, (u.alert p).due = false) →
              (∀ j js r, u.notices.mask.jobEnd = true → u.jobs.ended = j :: js → u.slot j = some r →
                u.transmit.slot j = none ∧ u.transmit.jobs.ended = js
                ∧ ∃ outcome, (∀ o, r.outcome = some o → outcome = o.code)
                  ∧ u.transmit.link.tx = some ⟨.noticeK, r.station, r.tag, 0,
                    [2] ++ be 4 u.control.clock.toNat ++ be 1 j.val
                      ++ [outcome, if r.outcome = some .done then 0 else (r.cancel.map CancelReason.code).getD 0,
                          (r.intake.reason.map BrokenReason.code).getD 0]
                      ++ be 2 r.copies ++ be 2 r.copiesDone ++ be 4 r.delivered ++ be 4 r.charged⟩)
              ∧ ((u.notices.mask.jobEnd = false ∨ u.jobs.ended = []) →
                (∀ a e es, u.notices.mask.account = true → u.notices.events = (a, e) :: es →
                  u.transmit.notices.events = es
                  ∧ u.transmit.link.tx = some ⟨.noticeK, 0, 0, 0,
                      [3] ++ be 4 u.control.clock.toNat ++ be 1 a
                        ++ be 1 ((if e.low then 1 else 0) + (if e.stop then 2 else 0))
                        ++ be 4 (if (u.account (Fin.ofNat 256 a)).unlimited then 0
                            else (u.account (Fin.ofNat 256 a)).balance - (u.account (Fin.ofNat 256 a)).reserved)⟩)
                ∧ ((u.notices.mask.account = false ∨ u.notices.events = []) →
                  (∀ a e es, u.notices.mask.meter = true → u.notices.reports = (a, e) :: es →
                    u.transmit.notices.reports = es
                    ∧ u.transmit.link.tx = some ⟨.noticeK, 0, 0, 0,
                        [4] ++ be 4 u.control.clock.toNat ++ be 1 a ++ be 4 e.sheets ++ be 4 e.units
                          ++ be 1 e.periods⟩)
                  ∧ ((u.notices.mask.meter = false ∨ u.notices.reports = []) → u.transmit = u))))))

/-- The spool arbiter grants one transfer at a time, and to the waiting request of lowest rank (R108): a granted
transfer stays; with spool memory free, no request that waited before the event is passed over for one of higher rank
number, nor for the next request of the requester whose own transfer the event completes. The fetcher of a port
requests, while its run is open, HALT is not sent, it has no request and its buffer holds fewer than 2 blocks, the
first block of the send sequence that is neither sent nor held (R107), and at the end of an event no fetcher is left
that should request. That a discarded fetch of the port must land first, and the tag that marks a block's sheet, are
the model's reading (logs 21 and 33). -/
def Obligations.ArbiterGrants : Prop :=
  (∀ (s : State) (r : Requester), s.requestWaits r = true ↔
    (r.val = 0 ∧ s.spool.granted ≠ some .write
      ∧ ∃ j b off bytes v, s.intake.writeList.head? = some (.write j b off bytes v))
    ∨ ∃ (p : Port) (f : FetchReq), r.val = p.val + 1 ∧ (s.port p).fetch = some f ∧ f.granted = false)
  ∧ (∀ before s : State,
    (s.spool.granted ≠ none → State.arbitrate before s = s)
    ∧ (s.spool.granted = none → (∀ r, s.requestWaits r = false) → State.arbitrate before s = s)
    ∧ (s.spool.granted = none → (∃ r, s.requestWaits r = true) →
        ∃ w, s.requestWaits w = true
          ∧ (∀ r, s.requestWaits r = true → before.requestWaits r = true →
              tget s.spool.ranks w ≤ tget s.spool.ranks r)
          ∧ (∀ r, s.requestWaits r = true → before.requestWaits r = true → before.requestWaits w = true
              ∨ ((before.spool.granted = some .write → w.val ≠ 0)
                ∧ ∀ p b, before.spool.granted = some (.fetch p b) → w.val ≠ p.val + 1))
          ∧ ((w.val = 0 ∧ (State.arbitrate before s).spool.granted = some .write)
            ∨ ∃ p f, w.val = p.val + 1 ∧ (s.port p).fetch = some f
                ∧ (State.arbitrate before s).spool.granted = some (.fetch p f.block)
                ∧ ((State.arbitrate before s).port p).fetch = some { f with granted := true })))
  ∧ (∀ (s : State) (p : Port),
    let r := s.port p
    let may : Prop := r.runOpen = true ∧ r.haltSent = false ∧ r.fetch = none ∧ r.buffer.length < 2
      ∧ ∀ b, s.spool.granted ≠ some (.fetch p b)
    let held (tag : Byte) : Nat := (r.buffer.filter fun h => decide (h.owner = tag)).length
    (∀ b tag, may → s.wanted p = some (b, tag) →
      s.placeFetch p = { s with ports := tset s.ports p { r with fetch := some ⟨b, tag, false, false⟩ } })
    ∧ (¬ may ∨ s.wanted p = none → s.placeFetch p = s)
    ∧ (∀ older e newer, r.inFlight = older ++ e :: newer →
        (∀ x ∈ older, s.sheetCount x.first ≤ x.sent + held x.tag) → e.sent + held e.tag < s.sheetCount e.first →
        s.wanted p = (s.follow e.first (e.sent + held e.tag)).map fun b => (b, e.tag))
    ∧ ((∀ x ∈ r.inFlight, s.sheetCount x.first ≤ x.sent + held x.tag) →
        (∀ j x b, r.state = .running → r.endSent = false → s.claim p = some j → s.live j = some x →
          x.feed.next = some b →
          s.wanted p = if held r.tagCounter < s.sheetCount b then
              (s.follow b (held r.tagCounter)).map fun b => (b, r.tagCounter) else none)
        ∧ (r.state ≠ .running ∨ r.endSent = true → s.wanted p = none)))
  ∧ ∀ (before u : State) (p : Port),
    let t := State.closing before u
    (t.port p).runOpen = true → (t.port p).haltSent = false → (t.port p).fetch = none →
      (t.port p).buffer.length < 2 → (∀ b, t.spool.granted ≠ some (.fetch p b)) → t.wanted p = none

/-! ## The reset input and the job link -/

/-- DEVICE RESET: every field the spec gives takes its reset value; with line signal present, the link up event is
taken at the end of the reset and FLOW GO is sent (R25, R27). Three things stay, by the model's choice: the bytes of
spool memory, which the spec gives no reset value (log 3), the model's counter of free values (log 2), and the queue
of waiting commands (log 28). LINK UP on a lawful link that is DOWN: the state is UP, every unacked alert record
becomes due with its timer stopped, the first frame sent is FLOW GO (R27), and no stall is left; on a link that is UP
it is no event (R25). -/
def Obligations.ResetAndLinkUp : Prop :=
  ∀ s : State,
    (s.link.state = .down → s.link.Legal →
      ∃ t, exec .linkUp s = .next t
        ∧ t = { s with
            link := { s.link with state := .up, lastFlow := some .go, tx := some (flowFrame .go) }
            alerts := t.alerts
            intake := { s.intake with stalled := none, stallTimer := none } }
        ∧ ∀ p, t.alert p =
            if (s.alert p).state = .activeUnacked ∨ (s.alert p).state = .clearedUnacked then
              { s.alert p with due := true, repeatTimer := none }
            else s.alert p)
    ∧ (s.link.state = .up → exec .linkUp s = .next s)
    ∧ let s0 : State := { State.reset with
      spool := { Spool.reset with mem := s.spool.mem }, freeTick := s.freeTick, pending := s.pending }
    exec (.deviceReset false) s = .next s0
    ∧ exec (.deviceReset true) s = .next { s0 with
        link := { LinkUnit.reset with state := .up, lastFlow := some .go, tx := some (flowFrame .go) } }

/-- FRAME ARRIVES: the checking and sorting of an inbound frame (R28, R30), with the flow target's rise to HOLD (R33). -/
def Obligations.FrameSorted : Prop :=
  ∀ (s : State) (bytes : List Byte), s.link.state = .up →
    (parseFrame bytes = none →
      Settles (.frameArrives bytes) s
        { s with link := { s.link with flags := { s.link.flags with frameCheck := true } } })
    ∧ ∀ f, parseFrame bytes = some f →
      (f.kind = .controlK → s.link.controlBuf.length < 4 →
        Settles (.frameArrives bytes) s { s with link := { s.link with controlBuf := s.link.controlBuf ++ [f] } })
      ∧ (f.kind = .controlK → 4 ≤ s.link.controlBuf.length →
        Settles (.frameArrives bytes) s
          { s with link := { s.link with flags := { s.link.flags with controlOverrun := true } } })
      ∧ (f.kind ≠ .controlK → f.kind ≠ .openK → (tget s.control.stations f.station).submit = false →
        Settles (.frameArrives bytes) s
          { s with link := { s.link with flags := { s.link.flags with notPermitted := true } } })
      ∧ (f.kind ≠ .controlK → (f.kind = .openK ∨ (tget s.control.stations f.station).submit = true) →
          (s.link.intakeBuf.length < 16 →
            Settles (.frameArrives bytes) s { s with link := { s.link with
              intakeBuf := s.link.intakeBuf ++ [f]
              target := if s.link.intakeBuf.length = 11 then .hold else s.link.target } })
          ∧ (16 ≤ s.link.intakeBuf.length →
            Settles (.frameArrives bytes) s
              { s with link := { s.link with flags := { s.link.flags with overrun := true } } }))

/-- FRAME TRANSMITTED frees the transmitter, which then makes its choice (R40, R41); SHOP CLOCK TICK advances the shop
clock by one, wrapping (R178). -/
def Obligations.LineEvents : Prop :=
  ∀ s : State,
    (s.link.tx ≠ none → Settles .frameTransmitted s { s with link := { s.link with tx := none } })
    ∧ exec .shopClockTick s = .next { s with control := { s.control with clock := s.control.clock + 1 } }

/-! ## Receiving jobs -/

/-- OPEN: the tests of R46 in their order, each with its reason: SUBMIT, the form of R47 (9 bytes, sequence 0,
destination class to 63, finishing kind to 3, a media class declared), the pair, the account, the route, a free job
slot (R1), a free intake slot (R42). A front OPEN that fails one is refused with the reason of the first that fails,
and nothing else changes; one that passes gets the lowest-numbered free job slot and an intake slot, its record holds
the values of R1 with copies and priority clamped by R47, it is bound by R63, joining the run queue at its place by
R66 behind which the jobs already there keep their order, or joins the back of the unbound list, and it is answered
ACCEPT, or ACCEPT-CLAMPED when a field was clamped, with its slot (R48). That the lowest-numbered of the free intake
slots is taken is the model's choice (log 36). -/
def Obligations.OpenTaken : Prop :=
  (∀ (s : State) (f : Frame), s.link.intakeBuf.head? = some f → f.kind = .openK → s.link.replies.length < 4 →
    (∀ why, s.openTests f = .error why →
      exec .openFrame s = .next (State.closing s { s with link := { s.link.taken with
        replies := s.link.replies ++ [⟨f.station, f.tag, 0, [18, why.code, 0]⟩] } }))
    ∧ ∀ a j i, s.openTests f = .ok (a, j, i) →
      Leads .openFrame s fun u =>
        u.link = { s.link.taken with replies := s.link.replies
          ++ [⟨f.station, f.tag, 0, [if a.clamped then 17 else 16, 0, BitVec.ofNat 8 j.val]⟩] }
        ∧ u.intake = { s.intake with slots := tset s.intake.slots i (some ⟨j, none, 0, 0⟩) }
        ∧ (∀ k, k ≠ j → u.slot k = s.slot k)
        ∧ (s.bestPort (newJob f a) = none → u.slot j = some (newJob f a)
            ∧ u.binder = { s.binder with unbound := s.binder.unbound ++ [j] })
        ∧ (∀ p, s.bestPort (newJob f a) = some p →
            u.slot j = some { newJob f a with phase := .queued, boundPort := some p }
            ∧ j ∈ u.queue p ∧ (u.queue p).length = (s.queue p).length + 1 ∧ (∀ q, q ≠ p → u.queue q = s.queue q)
            ∧ u.queue p = insertBefore u.queueBefore j (s.queue p) ∧ u.Joins j (s.queue p) (u.queue p)
            ∧ u.ComparesByR66
            ∧ u.binder.bindOrder = s.binder.bindOrder ++ [j] ∧ u.binder.claims = s.binder.claims)
        ∧ u.spool = s.spool ∧ u.ports = s.ports ∧ u.table = s.table ∧ u.locks = s.locks ∧ u.meter = s.meter
        ∧ u.alerts = s.alerts ∧ u.notices = s.notices ∧ u.control = s.control)
  ∧ (∀ (s : State) (f : Frame),
    let submits := (tget s.control.stations f.station).submit
    (submits = false → s.openTests f = .error .notPermitted)
    ∧ (submits = true → f.payload.length ≠ 9 ∨ f.seq ≠ 0 → s.openTests f = .error .badHeader)
    ∧ ∀ acc dst pri c1 c0 fin need m1 m0, submits = true → f.payload = [acc, dst, pri, c1, c0, fin, need, m1, m0] →
      (64 ≤ dst.toNat ∨ 4 ≤ fin.toNat ∨ (m1 = 0 ∧ m0 = 0) → s.openTests f = .error .badHeader)
      ∧ ∀ (dest : DestClass) (kind : Finishing), f.seq = 0 → dst.toNat = dest.val → fin.toNat = kind.code →
        (m1 ≠ 0 ∨ m0 ≠ 0) →
        let account : Account := ⟨acc.toNat, acc.isLt⟩
        let copies := c1.toNat * 256 + c0.toNat
        let kept := if copies = 0 then 1 else if copies < 1000 then copies else 999
        let carried (k : JobSlot) : Prop := ∃ r, s.live k = some r ∧ r.station = f.station ∧ r.tag = f.tag
        ((∃ k, carried k) → s.openTests f = .error .duplicate)
        ∧ ((∀ k, ¬ carried k) →
          ((s.account account).isOpen = false → s.openTests f = .error .noAccount)
          ∧ ((s.account account).isOpen = true →
            (tget s.binder.routes dest = 0 → s.openTests f = .error .noRoute)
            ∧ (tget s.binder.routes dest ≠ 0 →
              ((∀ k, s.slot k ≠ none) → s.openTests f = .error .tableFull)
              ∧ ∀ j, s.slot j = none → (∀ k, k < j → s.slot k ≠ none) →
                ((∀ i, tget s.intake.slots i ≠ none) → s.openTests f = .error .intakeBusy)
                ∧ ∀ i, tget s.intake.slots i = none → (∀ k, k < i → tget s.intake.slots k ≠ none) →
                  s.openTests f = .ok (⟨account, dest, ⟨min pri.toNat 3, by omega⟩, kept, kind,
                    ⟨need.getLsbD 0, need.getLsbD 1, BitVec.ofNat 16 (m1.toNat * 256 + m0.toNat)⟩,
                    decide (3 < pri.toNat ∨ kept ≠ copies)⟩, j, i)))))
  ∧ [RefuseReason.notPermitted, .badHeader, .duplicate, .noAccount, .noRoute, .tableFull, .intakeBusy].map
      RefuseReason.code = [1, 2, 3, 4, 5, 6, 7]
  ∧ ∀ (f : Frame) (a : OpenArgs), newJob f a =
    { station := f.station, tag := f.tag, account := a.account, dest := a.dest, priority := a.priority
      copies := a.copies, finishing := a.finishing, needs := a.needs, intake := .receiving, expected := some 1
      received := 0, head := none, tail := none, phase := .unbound, boundPort := none, lastPort := none
      held := false, creditStopped := false, cancel := none, feed := ⟨.at 1 1, none⟩, confirm := .at 1 1
      copiesDone := 0, delivered := 0, charged := 0
      releaseBehind := decide (a.copies = 1 ∧ a.finishing = .noFinish), outcome := none }

/-- DATA, MARK, CLOSE and ABANDON name the live job that carries their pair, when it is RECEIVING. A front frame that
names no receiving job is dropped with UNKNOWN-JOB and nothing else changes; one whose sequence is not the expected
one breaks its job with reason GAP, sets cancel requested with reason BROKEN unless it is set, and sets no flag (R45,
R4, R6); the job ends at once unless a run of it is open (R8, R9). -/
def Obligations.StrayFramesTaken : Prop :=
  (∀ (s : State) (f : Frame) (j : JobSlot) (r : Job), s.receiverOf f = some (j, r) ↔
    s.live j = some r ∧ r.station = f.station ∧ r.tag = f.tag ∧ r.intake = .receiving
      ∧ ∀ k < j, ∀ x, s.live k = some x → ¬ (x.station = f.station ∧ x.tag = f.tag))
  ∧ ∀ (c : Instr) (k : FrameKind) (s : State) (f : Frame), frameTaken c = some k → s.link.intakeBuf.head? = some f →
    f.kind = k →
    (s.receiverOf f = none →
      exec c s = .next (State.closing s
        { s with link := { s.link.taken with flags := { s.link.flags with unknownJob := true } } }))
    ∧ ∀ j r, s.receiverOf f = some (j, r) → r.expected ≠ some f.seq →
      Leads c s fun u => u.link = s.link.taken
        ∧ s.StopsJobs u (fun k _ => decide (k = j)) (fun _ => .broken .gap) (fun x => x.cancel.getD .broken)
        ∧ (∀ i, ∀ x, tget u.intake.slots i = some x → x.job ≠ j)

/-- DATA that passes R45 (R49): a payload of 0 bytes only advances the sequence; otherwise the payload opens a sheet
in a fresh block, or fits the tail block, or fills the tail block and goes on in a fresh one (which takes it all when
the tail block is full), as its writes on the list say; the frame waits while it needs a block and the pool is empty,
while the list lacks room, and, where it opens a sheet, while a close mark of its job waits (R44); a block beyond the
65,535 of one sheet breaks the job UNDECLARED. A block taken leaves the front of the pool with a fresh link record and
joins the back of the chain, as its head too when the chain was empty (R11, R13). The other intake slots, the other
jobs and the rest of the machine stand. That this break does not wait for the pool or the list is the model's reading
(log 16). -/
def Obligations.DataTaken : Prop :=
  (∀ (s : State) (j : JobSlot) (i : Fin 8), s.intakeSlotOf j = some i ↔
    (∃ x, tget s.intake.slots i = some x ∧ x.job = j)
      ∧ ∀ k < i, ∀ x, tget s.intake.slots k = some x → x.job ≠ j)
  ∧ ∀ (s : State) (f : Frame) (j : JobSlot) (r : Job) (i : Fin 8) (x : IntakeSlot),
    s.link.intakeBuf.head? = some f → f.kind = .dataK → s.receiverOf f = some (j, r) → r.expected = some f.seq →
    s.intakeSlotOf j = some i → tget s.intake.slots i = some x →
    let n := f.payload.length
    let w := s.intake.writeList
    let r1 : Job := { r with expected := some (f.seq + 1) }
    let goesOn (u : State) (place : IntakeSlot) (writes : List WriteEntry) (pool : List Block) (r' : Job) : Prop :=
      u = { s with
        link := s.link.taken
        intake := { s.intake with slots := tset s.intake.slots i (some place), writeList := w ++ writes }
        spool := { s.spool with pool := pool, links := u.spool.links }
        jobs := { s.jobs with recs := tset s.jobs.recs j (some r') } }
    (n = 0 → exec .dataFrame s = .next (State.closing s { s with
      link := s.link.taken, jobs := { s.jobs with recs := tset s.jobs.recs j (some r1) } }))
    ∧ (∀ b bs, 0 < n → x.openSheet = none → x.sheetBlocks = 0 → s.spool.pool = b :: bs → s.listHasMark j = false →
        w.length < 4 → Leads .dataFrame s fun u =>
          goesOn u ⟨j, some b, 1, n⟩ [.write j b 0 f.payload false] bs (r1.joined b) ∧ s.LinksJoined u r b)
    ∧ (∀ o tb, 0 < n → x.openSheet = some o → r.tail = some tb → n ≤ 2048 - x.tailOffset → w.length < 4 →
        Leads .dataFrame s fun u =>
          goesOn u { x with tailOffset := x.tailOffset + n } [.write j tb x.tailOffset f.payload false] s.spool.pool r1
          ∧ u.spool = s.spool)
    ∧ (∀ o tb b bs, x.openSheet = some o → r.tail = some tb → x.tailOffset < 2048 → 2048 - x.tailOffset < n →
        x.sheetBlocks ≠ 65535 → s.spool.pool = b :: bs → w.length < 3 →
        Leads .dataFrame s fun u =>
          goesOn u ⟨j, some o, x.sheetBlocks + 1, n - (2048 - x.tailOffset)⟩
            [.write j tb x.tailOffset (f.payload.take (2048 - x.tailOffset)) false,
              .write j b 0 (f.payload.drop (2048 - x.tailOffset)) false] bs (r1.joined b)
          ∧ s.LinksJoined u r b)
    ∧ (∀ o b bs, 0 < n → x.openSheet = some o → 2048 ≤ x.tailOffset → x.sheetBlocks ≠ 65535 → s.spool.pool = b :: bs →
        w.length < 4 → Leads .dataFrame s fun u =>
          goesOn u ⟨j, some o, x.sheetBlocks + 1, n⟩ [.write j b 0 f.payload false] bs (r1.joined b)
          ∧ s.LinksJoined u r b)
    ∧ (0 < n → x.openSheet = none → s.spool.pool = [] → exec .dataFrame s = .next s)
    ∧ (0 < n → x.openSheet = none → 4 ≤ w.length → exec .dataFrame s = .next s)
    ∧ (0 < n → x.openSheet = none → s.listHasMark j = true → exec .dataFrame s = .next s)
    ∧ (∀ o, 0 < n → x.openSheet = some o → n ≤ 2048 - x.tailOffset → 4 ≤ w.length → exec .dataFrame s = .next s)
    ∧ (∀ o, x.openSheet = some o → 2048 - x.tailOffset < n → x.sheetBlocks ≠ 65535 →
        s.spool.pool = [] ∨ 4 ≤ w.length ∨ (x.tailOffset < 2048 ∧ 3 ≤ w.length) → exec .dataFrame s = .next s)
    ∧ (∀ o, x.openSheet = some o → 2048 - x.tailOffset < n → x.sheetBlocks = 65535 →
        Leads .dataFrame s fun u => u.link = s.link.taken ∧ (∀ k y, tget u.intake.slots k = some y → y.job ≠ j)
          ∧ s.StopsJobs u (fun k _ => decide (k = j)) (fun _ => .broken .undeclared)
              (fun y => y.cancel.getD .broken))

/-- The closing of a sheet (R15, R52): the first block gets its sheet-start record with the next sheet number and the
block count up to the chain's tail, sheets received rises by one, and a feed cursor that waits at the intake edge
stands on the sheet. The walk of a chain follows the next blocks of its link records (R11), and the search of R16
finds the first block of a closed sheet that the chain holds, and of no other. -/
def Obligations.SheetCloses : Prop :=
  (∀ (s : State) (b : Block),
    s.follow b 0 = some b ∧ s.chainFrom 0 b = []
    ∧ (∀ n, (s.blockLink b).next = none → s.follow b (n + 1) = none ∧ s.chainFrom (n + 1) b = [b])
    ∧ (∀ n c, (s.blockLink b).next = some c →
        s.follow b (n + 1) = s.follow c n ∧ s.chainFrom (n + 1) b = b :: s.chainFrom n c)
    ∧ ((s.blockLink b).sheet = none → s.sheetCount b = 0)
    ∧ ∀ st, (s.blockLink b).sheet = some st → s.sheetCount b = st.count)
  ∧ (∀ (s : State) (r : Job) (sheets : List (List Block)) (rest : List Block),
    s.chain r = sheets.flatten ++ rest → s.Sheets r.oldest sheets → (∀ c ∈ rest, (s.blockLink c).sheet = none) →
    (∀ b, (s.chain r).getLast? = some b → (s.blockLink b).next = none) →
      (∀ k, (h : k < sheets.length) → s.findSheet r (r.oldest + k) = sheets[k].head?)
      ∧ ∀ n, n < r.oldest ∨ r.oldest + sheets.length ≤ n → s.findSheet r n = none)
  ∧ ∀ (s : State) (j : JobSlot) (r : Job) (b : Block) (s1 s2 : SideMode) (m : Media), s.Stored → s.slot j = some r →
    let u := (s.closeSheet j b s1 s2 m).1
    u.blockLink b = { s.blockLink b with
      sheet := some ⟨r.received + 1, s1, s2, m, (s.chainFrom blockCount b).length⟩ }
    ∧ (∀ b', b' ≠ b → u.blockLink b' = s.blockLink b')
    ∧ u.slot j = some { r with
        received := r.received + 1
        feed := if r.feed.next = none ∧ r.feed.pos = .at 1 (r.received + 1) then ⟨r.feed.pos, some b⟩ else r.feed }
    ∧ (∀ k, k ≠ j → u.slot k = s.slot k) ∧ u.spool.pool = s.spool.pool ∧ u.spool.mem = s.spool.mem
    ∧ u.meter = s.meter ∧ u.ports = s.ports ∧ u.binder = s.binder

/-- MARK that passes R45 (R51, R44): one that fails the declared-needs check (three bytes, its modes and media class
known, a COLOR side and a side 2 only where declared, a declared class, and a sheet still to be counted) breaks its
job UNDECLARED; one that closes the open sheet does so at once when the list holds no entry of its job, and otherwise
puts a close mark on the list, for which it waits while the list is full; an empty sheet takes a block, and waits
while there is none or a close mark of its job waits. -/
def Obligations.MarkTaken : Prop :=
  (∀ (r : Job) (payload : List Byte) (m1 m2 : SideMode) (m : Media), markValues r payload = some (m1, m2, m) ↔
    (∃ a b c : Byte, payload = [a, b, c] ∧ a.toNat = m1.code ∧ b.toNat = m2.code ∧ c.toNat = m.val)
      ∧ (m1 = .color ∨ m2 = .color → r.needs.colour = true) ∧ (m2 ≠ .blank → r.needs.duplex = true)
      ∧ r.needs.media.getLsbD m.val = true ∧ r.received ≠ 65535)
  ∧ [SideMode.blank, .mono, .color].map SideMode.code = [0, 1, 2]
  ∧ (∀ (s : State) (j : JobSlot),
    (s.listHas j = true ↔ ∃ e ∈ s.intake.writeList, e.isOf j = true)
    ∧ (s.listHasMark j = true ↔ ∃ b m1 m2 m, .mark j b m1 m2 m ∈ s.intake.writeList)
    ∧ (∀ k b off bytes v, (WriteEntry.write k b off bytes v).isOf j = true ↔ k = j ∧ v = false)
    ∧ ∀ k b m1 m2 m, (WriteEntry.mark k b m1 m2 m).isOf j = true ↔ k = j)
  ∧ ∀ (s : State) (f : Frame) (j : JobSlot) (r : Job) (i : Fin 8) (x : IntakeSlot),
    s.link.intakeBuf.head? = some f → f.kind = .markK → s.receiverOf f = some (j, r) → r.expected = some f.seq →
    s.intakeSlotOf j = some i → tget s.intake.slots i = some x →
    let s1 := ({ s with link := s.link.taken } : State).modJob j fun r => { r with expected := some (f.seq + 1) }
    let closed : State := { s1 with intake := { s1.intake with
      slots := tset s1.intake.slots i (some { x with openSheet := none, sheetBlocks := 0, tailOffset := 0 }) } }
    (markValues r f.payload = none → exec .markFrame s = .next (State.closing s (s1.breakJob j .undeclared))
      ∧ Leads .markFrame s fun u => u.link = s.link.taken ∧ (∀ k y, tget u.intake.slots k = some y → y.job ≠ j)
        ∧ s.StopsJobs u (fun k _ => decide (k = j)) (fun _ => .broken .undeclared) (fun y => y.cancel.getD .broken))
    ∧ ∀ m1 m2 m, markValues r f.payload = some (m1, m2, m) →
      (∀ b, x.openSheet = some b → s.listHas j = false →
        exec .markFrame s = .next (State.closing s (closed.applyMark j b m1 m2 m)))
      ∧ (∀ b, x.openSheet = some b → s.listHas j = true → s.intake.writeList.length < 4 →
        exec .markFrame s = .next (State.closing s { closed with
          intake := { closed.intake with writeList := s.intake.writeList ++ [.mark j b m1 m2 m] } }))
      ∧ (x.openSheet ≠ none → s.listHas j = true → 4 ≤ s.intake.writeList.length → exec .markFrame s = .next s)
      ∧ (x.openSheet = none → s.spool.pool = [] ∨ s.listHasMark j = true → exec .markFrame s = .next s)
      ∧ (∀ b bs, x.openSheet = none → s.spool.pool = b :: bs → s.listHas j = false →
        ∃ u, s1.takeBlock j = some (b, u) ∧ u.spool.pool = bs
          ∧ exec .markFrame s = .next (State.closing s ((u.modPlace j IntakeSlot.closed).applyMark j b m1 m2 m))
          ∧ u.modPlace j IntakeSlot.closed = { closed with
              spool := { s.spool with pool := bs, links := u.spool.links }
              jobs := { s.jobs with
                recs := tset s.jobs.recs j (some (({ r with expected := some (f.seq + 1) } : Job).joined b)) } }
          ∧ s.LinksJoined u r b)

/-- CLOSE that passes R45 (R53, R44): it waits while the list holds an entry of its job. An open sheet closes first,
as the next sheet of the job, of modes MONO and NONE and the lowest declared media class, and a feed cursor that
waited for it stands on it (R15, R18); as a sheet beyond 65,535 it breaks the job UNDECLARED. Then intake becomes
COMPLETE, the sequence absent and the slot free; a cursor that waits at the intake edge leaves it (R18), a copy that
the confirm cursor has reached the end of is done (R19); the port makes the feed attempt of a sheet its cursor waited
for; and a job that is done or cancelled ends at once unless a run of it is open (R8, R9): a job without sheets and
without a claim ends DONE. That the feed attempt follows the completion of intake is the model's reading (log 15). -/
def Obligations.CloseTaken : Prop :=
  (∀ set : Half, set ≠ 0 → set.getLsbD (lowestMedia set).val = true
    ∧ ∀ m : Media, m < lowestMedia set → set.getLsbD m.val = false)
  ∧ ∀ (s : State) (f : Frame) (j : JobSlot) (r : Job) (i : Fin 8) (x : IntakeSlot),
    s.link.intakeBuf.head? = some f → f.kind = .closeK → s.receiverOf f = some (j, r) → r.expected = some f.seq →
    s.intakeSlotOf j = some i → tget s.intake.slots i = some x →
    (s.listHas j = true → exec .closeFrame s = .next s)
    ∧ (s.listHas j = false → x.openSheet = none ∨ r.received ≠ 65535 →
      let n := r.received + (if x.openSheet = none then 0 else 1)
      let done := if n = 0 then r.copies else if r.confirm = .at 1 (n + 1) then r.copiesDone + 1 else r.copiesDone
      Leads .closeFrame s fun u => u.link = s.link.taken
        ∧ (∀ k y, tget u.intake.slots k = some y ↔ tget s.intake.slots k = some y ∧ y.job ≠ j)
        ∧ (s.runOpenFor j = false → done = r.copies ∨ r.cancel ≠ none → s.HasEnded u j fun r' =>
            r'.intake = .complete ∧ r'.expected = none ∧ r'.received = n ∧ r'.copiesDone = done)
        ∧ (s.runOpenFor j = true ∨ (done ≠ r.copies ∧ r.cancel = none) → ∃ r', u.live j = some r'
            ∧ r'.intake = .complete ∧ r'.expected = none ∧ r'.received = n ∧ r'.copiesDone = done)
        ∧ (r.received = 0 → x.openSheet = none → s.claimPort j = none →
            (s.notices.mask.jobEnd = false → u.slot j = none)
            ∧ (s.notices.mask.jobEnd = true → u.jobs.ended = s.jobs.ended ++ [j]
                ∧ ∃ r', u.slot j = some r' ∧ r'.outcome = some .done ∧ r'.phase = .finished
                    ∧ r'.copiesDone = r.copies)))
    ∧ (s.listHas j = false → x.openSheet = none ∨ r.received ≠ 65535 →
      let n := r.received + (if x.openSheet = none then 0 else 1)
      let waits : Prop := r.feed.next = none ∧ r.feed.pos = .at 1 (r.received + 1)
      let feed : Cursor :=
        if n = 0 then ⟨.endPos, none⟩
        else if waits ∧ x.openSheet ≠ none then ⟨r.feed.pos, x.openSheet⟩
        else if r.feed.next = none ∧ r.feed.pos = .at 1 (n + 1) then
          (if 2 ≤ r.copies then ⟨.at 2 1, r.head⟩ else ⟨.endPos, none⟩)
        else r.feed
      let confirm : Pos :=
        if n = 0 then .endPos
        else if r.confirm = .at 1 (n + 1) then (if 2 ≤ r.copies then .at 2 1 else .endPos) else r.confirm
      let done := if n = 0 then r.copies else if r.confirm = .at 1 (n + 1) then r.copiesDone + 1 else r.copiesDone
      ∃ v : State,
        v = { s with
          link := s.link.taken
          intake := { s.intake with slots := v.intake.slots }
          spool := { s.spool with links := v.spool.links }
          jobs := { s.jobs with recs := tset s.jobs.recs j (some { r with
            intake := .complete, expected := none, received := n, feed := feed, confirm := confirm,
            copiesDone := done }) } }
        ∧ (∀ k y, tget v.intake.slots k = some y ↔ tget s.intake.slots k = some y ∧ y.job ≠ j)
        ∧ (x.openSheet = none → v.spool.links = s.spool.links)
        ∧ (∀ b, s.Stored → x.openSheet = some b →
            v.blockLink b = { s.blockLink b with sheet := some ⟨n, .mono, .blank, lowestMedia r.needs.media,
              (s.chainFrom blockCount b).length⟩ }
            ∧ ∀ b', b' ≠ b → v.blockLink b' = s.blockLink b')
        ∧ (∀ p, s.claimPort j = some p → waits → x.openSheet ≠ none →
            exec .closeFrame s = .next (State.closing s ((v.attemptFeed p).tryEnd j)))
        ∧ (¬ waits ∨ x.openSheet = none ∨ s.claimPort j = none →
            exec .closeFrame s = .next (State.closing s (v.tryEnd j))))
    ∧ (∀ b, s.listHas j = false → x.openSheet = some b → r.received = 65535 →
      Leads .closeFrame s fun u => u.link = s.link.taken ∧ (∀ k y, tget u.intake.slots k = some y → y.job ≠ j)
        ∧ s.StopsJobs u (fun k _ => decide (k = j)) (fun _ => .broken .undeclared) (fun y => y.cancel.getD .broken))

/-- ABANDON that passes R45 cancels its job with reason STATION (R54); the expiry of the stall timer discards the
front frame and breaks the stalled job SPOOL-FULL (R58). In both the job leaves RECEIVING, its intake slot is freed,
and it ends at once unless a run of it is open (R8, R9). The stall begins at the event after which the pool is empty
and the front frame needs a block, its timer loaded with the stall limit, and ends at the event after which that no
longer holds, its timer stopped (R56, R57). That it is settled at the end of the event is the model's reading (log
12), and so is that a DATA frame that asks for a block beyond the 65,535 of one sheet, which breaks its job at once,
needs no block and begins no stall (log 16). -/
def Obligations.AbandonAndStall : Prop :=
  (∀ (s : State) (f : Frame) (j : JobSlot) (r : Job), s.link.intakeBuf.head? = some f → f.kind = .abandonK →
    s.receiverOf f = some (j, r) → r.expected = some f.seq → r.cancel = none →
    Leads .abandonFrame s fun u => u.link = s.link.taken ∧ (∀ i x, tget u.intake.slots i = some x → x.job ≠ j)
      ∧ s.StopsJobs u (fun k _ => decide (k = j)) (fun _ => .complete) (fun _ => .station))
  ∧ (∀ (s : State) (j : JobSlot) (r : Job), s.intake.stalled = some j → s.live j = some r →
    Leads .stallTimerExpiry s fun u => u.link = s.link.taken ∧ u.intake.stalled = none ∧ u.intake.stallTimer = none
      ∧ (∀ i x, tget u.intake.slots i = some x → x.job ≠ j)
      ∧ s.StopsJobs u (fun k _ => decide (k = j)) (fun _ => .broken .spoolFull) (fun x => x.cancel.getD .broken)
      ∧ ∀ r', u.slot j = some r' → r'.expected = none)
  ∧ (∀ before u t : State, (∀ j ∈ u.jobs.ended, u.live j = none) → t = State.closing before u ∨ t = u.linkClosing →
      t.intake.stalled = (if t.spool.pool = [] then t.blockWanted else none)
      ∧ t.intake.stallTimer = (if t.intake.stalled = none then none
          else if u.intake.stalled = t.intake.stalled then u.intake.stallTimer
          else some (u.control.settings.stallLimit * 1000)))
  ∧ ∀ s : State, (s.link.intakeBuf = [] → s.blockWanted = none)
    ∧ ∀ f, s.link.intakeBuf.head? = some f →
      ((s.receiverOf f = none ∨ (∃ j r, s.receiverOf f = some (j, r) ∧ r.expected ≠ some f.seq)
          ∨ (f.kind ≠ .dataK ∧ f.kind ≠ .markK)) → s.blockWanted = none)
      ∧ ∀ j r i x, s.receiverOf f = some (j, r) → r.expected = some f.seq → s.intakeSlotOf j = some i →
        tget s.intake.slots i = some x →
        (f.kind = .dataK → s.blockWanted = if 0 < f.payload.length ∧ (x.openSheet = none
            ∨ (2048 - x.tailOffset < f.payload.length ∧ x.sheetBlocks ≠ 65535)) then some j else none)
        ∧ (f.kind = .markK → s.blockWanted = if markValues r f.payload ≠ none ∧ x.openSheet = none then some j
            else none)

/-- WRITE COMPLETES: the granted write at the front of the list stores its bytes at its block and offset, its block's
fill rises by its length unless it is void (R14, R50), and every other byte reads as before; the write leaves the
list, and with it every close mark before which no entry of its own job now stands, each of which closes its sheet,
with a feed attempt where the job's feed cursor waited for the sheet (R50, R52, R103). FETCH LANDS: the granted block
joins the back of the port buffer when its run is open and it was not discarded, and the request becomes absent
(R110). That a void write stores its bytes is the model's reading (log 27). -/
def Obligations.TransfersComplete : Prop :=
  (∀ (s : State) (j : JobSlot) (b off : Nat) (bytes : List Byte) (v : Bool) (rest : List WriteEntry), s.Stored →
    s.spool.granted = some .write → s.intake.writeList = .write j b off bytes v :: rest →
    ∃ u : State, exec .writeCompletes s = .next (State.closing s (u.applyMarks (readyMarks [] rest).1))
      ∧ u.spool.granted = none ∧ u.intake = { s.intake with writeList := (readyMarks [] rest).2 }
      ∧ (v = false → ∀ k, (h : k < bytes.length) → readByte u.spool.mem (b * 2048 + off + k) = bytes[k])
      ∧ (∀ a, (a < b * 2048 + off ∨ b * 2048 + off + bytes.length ≤ a) →
          readByte u.spool.mem a = readByte s.spool.mem a)
      ∧ u.blockLink b = { s.blockLink b with
          fill := if v then (s.blockLink b).fill else (s.blockLink b).fill + bytes.length }
      ∧ (∀ b', b' ≠ b → u.blockLink b' = s.blockLink b') ∧ u.spool.pool = s.spool.pool
      ∧ u.spool.ranks = s.spool.ranks
      ∧ u = { s with spool := u.spool, intake := u.intake })
  ∧ (∀ rest : List WriteEntry,
    let ms := readyMarks [] rest
    let write (e : WriteEntry) : Bool := match e with | .write .. => true | .mark .. => false
    ms.2.Sublist rest ∧ ms.2.filter write = rest.filter write
    ∧ ms.1.length + ms.2.length = rest.length
    ∧ ∀ a k g m1 m2 m c, rest = a ++ .mark k g m1 m2 m :: c →
        (∀ e ∈ a ++ c, ∀ g' n1 n2 n, e ≠ .mark k g' n1 n2 n) →
        ((k, g, m1, m2, m) ∈ ms.1 ↔ ∀ e ∈ a, e.isOf k = false)
        ∧ (WriteEntry.mark k g m1 m2 m ∈ ms.2 ↔ ∃ e ∈ a, e.isOf k = true))
  ∧ (∀ (u : State) (k : JobSlot) (g : Block) (m1 m2 : SideMode) (m : Media),
    let c := u.closeSheet k g m1 m2 m
    u.applyMarks [] = u
    ∧ (∀ ms, u.applyMarks ((k, g, m1, m2, m) :: ms) = (u.applyMark k g m1 m2 m).applyMarks ms)
    ∧ (∀ r, u.slot k = some r →
        let waited : Prop := r.feed.next = none ∧ r.feed.pos = .at 1 (r.received + 1)
        (¬ waited → u.applyMark k g m1 m2 m = c.1)
        ∧ (∀ p, waited → u.claimPort k = some p → u.applyMark k g m1 m2 m = c.1.attemptFeed p)
        ∧ (waited → u.claimPort k = none → u.applyMark k g m1 m2 m = c.1)))
  ∧ (∀ (s : State) (b : Block), s.blockBytes b =
      (List.range (s.blockLink b).fill).map fun k => readByte s.spool.mem (b * 2048 + k))
  ∧ ∀ (s : State) (p : Port) (b : Block) (fr : FetchReq), s.spool.granted = some (.fetch p b) →
    (s.port p).fetch = some fr → fr.granted = true →
    exec .fetchLands s = .next (State.closing s
      (({ s with spool := { s.spool with granted := none } } : State).modPort p fun r =>
        { r with
          fetch := none
          buffer := if fr.discard = false ∧ r.runOpen = true then r.buffer ++ [⟨b, fr.owner, s.blockBytes b⟩]
            else r.buffer }))

/-! ## Management requests -/

/-- The tests 1 and 2 of R172, for every request: it waits while the reply queue is full (R32); from a station without
MANAGE it is answered NOT-PERMITTED, malformed BAD-REQUEST, with no other effect. A payload is malformed when its
length is not that of its code (R182), a job reference has a form above 1, a rest mode or account state byte is above
1, or a STATION WRITE counts no station (R183). A reply carries its code and the request's (12.4). Answered likewise
is a CONTROL frame of no known code, whose reply carries request code 0. -/
def Obligations.RequestsChecked : Prop :=
  (∀ (s : State) (f : Frame), s.permits f = (tget s.control.stations f.station).manage)
  ∧ ((List.range 43).map requestLength =
      [none] ++ [5, 5, 5, 5, 6, 6, 1, 4, 2, 2, 1, 11, 2, 2, 2, 2, 2, 2, 6, 2, 3, 1, 2, 2, 1, 9, 6, 6, 2, 6, 2, 3, 2, 2, 1, 5,
        2, 10, 1, 5, 1, 2].map some
    ∧ ∀ k, 43 ≤ k → requestLength k = none)
  ∧ (requestCode [] = 0 ∧ requestForm [] = false ∧ ∀ (code : Byte) (args : List Byte),
    let arg (k : Nat) : Nat := (args.getD k 0).toNat
    requestCode (code :: args) = code.toNat
    ∧ (requestForm (code :: args) = true ↔ requestLength code.toNat = some (args.length + 1)
      ∧ (1 ≤ code.toNat ∧ code.toNat ≤ 6 → arg 0 ≤ 1) ∧ (code.toNat = 12 → arg 6 ≤ 1) ∧ (code.toNat = 26 → arg 1 ≤ 1)
      ∧ (code.toNat = 36 → 0 < arg 1 * 256 + arg 2)))
  ∧ (∀ (f : Frame) (why : ReplyCode) (k : Nat) (data : List Byte),
    controlReply f why k data = ⟨f.station, 0, f.request, why.code :: BitVec.ofNat 8 k :: data⟩)
  ∧ [ReplyCode.done, .clamped, .notPermitted, .badRequest, .badIndex, .noSuchJob, .busy, .started, .stale, .noRoom,
      .ineligible, .inUse, .held, .accept, .acceptClamped, .refuse].map ReplyCode.code
      = [0, 1, 2, 3, 4, 5, 6, 7, 8, 9, 10, 11, 12, 16, 17, 18]
  ∧ (∀ (c : Instr) (k : Nat) (s : State) (f : Frame), requestOf c = some k → s.link.controlBuf.head? = some f →
    requestCode f.payload = k →
    (4 ≤ s.link.replies.length → exec c s = .next s)
    ∧ (s.link.replies.length < 4 → s.permits f = false → Refused c k s f .notPermitted)
    ∧ (s.link.replies.length < 4 → s.permits f = true → requestForm f.payload = false →
        Refused c k s f .badRequest))
  ∧ ∀ (s : State) (f : Frame), s.link.controlBuf.head? = some f → requestLength (requestCode f.payload) = none →
    s.link.replies.length < 4 →
    Settles .unknownRequest s { s with
      link := s.link.answered (controlReply f (if s.permits f then .badRequest else .notPermitted) 0 []) }

/-- The tests 3 and 4 of R172, and R173: an index out of range is answered BAD-INDEX, and a request that names no live
job NO-SUCH-JOB, with no other effect; JOB QUERY by slot also finds a slot on the ended list, so only a free slot
fails it. A pair names the live job that carries it (R2). -/
def Obligations.IndicesAndJobsChecked : Prop :=
  ∀ (s : State) (f : Frame) (b x y z w : Byte),
    (∀ c k, requestOf c = some k → k ∈ [10, 13, 14, 15, 16, 17, 18, 33] → s.Asks f [BitVec.ofNat 8 k, b] →
      16 ≤ b.toNat → Refused c k s f .badIndex)
    ∧ (∀ c k, requestOf c = some k → k ∈ [1, 2, 3, 4] → s.Asks f [BitVec.ofNat 8 k, 0, b, x, y] →
      128 ≤ b.toNat → Refused c k s f .badIndex)
    ∧ (s.Asks f [5, x, y, z, w, b] → x.toNat ≤ 1 → 16 ≤ b.toNat → Refused .move 5 s f .badIndex)
    ∧ (s.Asks f [5, 0, b, x, y, z] → 128 ≤ b.toNat → Refused .move 5 s f .badIndex)
    ∧ (s.Asks f [6, 0, b, x, y, z] → 128 ≤ b.toNat → Refused .priority 6 s f .badIndex)
    ∧ (∀ sel en pac fin del rest light d1 d0 : Byte, rest.toNat ≤ 1 →
      s.Asks f [12, b, sel, en, pac, fin, del, rest, light, d1, d0] → 16 ≤ b.toNat →
      Refused .portTableWrite 12 s f .badIndex)
    ∧ (s.Asks f [8, b, x, y] → 64 ≤ b.toNat → Refused .routeWrite 8 s f .badIndex)
    ∧ (s.Asks f [9, b] → 64 ≤ b.toNat → Refused .routeRead 9 s f .badIndex)
    ∧ (s.Asks f [19, b, x, y, z, w] → 4 ≤ b.toNat → Refused .pacingWrite 19 s f .badIndex)
    ∧ (s.Asks f [20, b] → 4 ≤ b.toNat → Refused .pacingRead 20 s f .badIndex)
    ∧ (s.Asks f [21, b, x] → 17 ≤ b.toNat → Refused .rankWrite 21 s f .badIndex)
    ∧ (s.Asks f [30, b, x, y, z, w] → 16 ≤ b.toNat → Refused .rateWrite 30 s f .badIndex)
    ∧ (s.Asks f [31, b] → 16 ≤ b.toNat → Refused .rateRead 31 s f .badIndex)
    ∧ (s.Asks f [32, b, x] → 16 ≤ b.toNat → Refused .alertAck 32 s f .badIndex)
    ∧ (s.Asks f [36, b, x, y, z] → (x ≠ 0 ∨ y ≠ 0) → 256 < b.toNat + (x.toNat * 256 + y.toNat) →
      Refused .stationWrite 36 s f .badIndex)
    ∧ ∀ j : JobSlot,
      (∀ c k, requestOf c = some k → k ∈ [2, 3, 4] → b.toNat = j.val → s.live j = none →
        s.Asks f [BitVec.ofNat 8 k, 0, b, x, y] → Refused c k s f .noSuchJob)
      ∧ (b.toNat = j.val → s.slot j = none → s.Asks f [1, 0, b, x, y] → Refused .jobQuery 1 s f .noSuchJob)
      ∧ (∀ c k, requestOf c = some k → k ∈ [1, 2, 3, 4] → s.findPair (index256 b) (halfOf x y) = none →
        s.Asks f [BitVec.ofNat 8 k, 1, b, x, y] → Refused c k s f .noSuchJob)
      ∧ (s.findPair (index256 b) (halfOf x y) = none →
        (z.toNat < 16 → s.Asks f [5, 1, b, x, y, z] → Refused .move 5 s f .noSuchJob)
        ∧ (s.Asks f [6, 1, b, x, y, z] → Refused .priority 6 s f .noSuchJob))
      ∧ (s.findPair (index256 b) (halfOf x y) = none ↔ ∀ k r, s.live k = some r →
          ¬ (r.station.val = b.toNat ∧ r.tag.toNat = x.toNat * 256 + y.toNat))
      ∧ (s.findPair (index256 b) (halfOf x y) = some j → ∃ r, s.live j = some r ∧ r.station.val = b.toNat
          ∧ r.tag.toNat = x.toNat * 256 + y.toNat)
      ∧ (s.namedJob false (jobRef 0 b x y) = .ok j ↔ b.toNat = j.val ∧ s.live j ≠ none)
      ∧ (s.namedJob true (jobRef 0 b x y) = .ok j ↔ b.toNat = j.val ∧ s.slot j ≠ none)
      ∧ (∀ query, s.namedJob query (jobRef 1 b x y) = .ok j ↔ s.findPair (index256 b) (halfOf x y) = some j)
      ∧ ∀ z, (b.toNat = j.val → s.live j = none → z.toNat < 16 → s.Asks f [5, 0, b, x, y, z] →
          Refused .move 5 s f .noSuchJob)
        ∧ (b.toNat = j.val → s.live j = none → s.Asks f [6, 0, b, x, y, z] → Refused .priority 6 s f .noSuchJob)

/-- The reads: each reports the table entry or record as it stands and changes nothing but the link (R36, R75, R77,
R97, R98, R109, R131, R150, R163, R170, R174, R176, R180), in the layout of 12.4: the fields in the order of the
owner's rule, an optional field behind its presence byte, each enumerated value by its code. The bytes of an absent
field are left open, and so are those of a cursor's sheet 65,536, which does not fit in two (log 37); the counter of
the free values for them advances where the layout has optional fields (the model's choice, log 9). Which fields of
JOB QUERY are optional is the model's reading (log 22). -/
def Obligations.ReadsReport : Prop :=
  (∀ n : Nat, be 1 n = [BitVec.ofNat 8 n] ∧ be 2 n = [BitVec.ofNat 8 (n / 256), BitVec.ofNat 8 n]
    ∧ be 3 n = [BitVec.ofNat 8 (n / 65536), BitVec.ofNat 8 (n / 256), BitVec.ofNat 8 n]
    ∧ be 4 n = [BitVec.ofNat 8 (n / 16777216), BitVec.ofNat 8 (n / 65536), BitVec.ofNat 8 (n / 256), BitVec.ofNat 8 n])
  ∧ (∀ (s : State) (f : Frame) (b : Byte),
    (∀ c : DestClass, b.toNat = c.val → s.Asks f [9, b] → Settles .routeRead s { s with
      link := s.link.answered (controlReply f .done 9 (be 2 (tget s.binder.routes c).toNat)) })
    ∧ (s.Asks f [11] → Settles .unboundRead s { s with
      link := s.link.answered (controlReply f .done 11
        (be 1 s.binder.unbound.length ++ s.binder.unbound.map fun j => BitVec.ofNat 8 j.val)) })
    ∧ (∀ p : Port, b.toNat = p.val → s.Asks f [13, b] → Settles .portTableRead s { s with
      link := s.link.answered (controlReply f .done 13 (s.entry p).wire) })
    ∧ (∀ c : PacingClass, b.toNat = c.val → s.Asks f [20, b] → Settles .pacingRead s { s with
      link := s.link.answered (controlReply f .done 20
        (be 2 (tget s.control.pacing c).interval ++ be 2 (tget s.control.pacing c).transitLimit)) })
    ∧ (s.Asks f [22] → Settles .rankRead s { s with
      link := s.link.answered (controlReply f .done 22 (s.spool.ranks.toList.flatMap fun r => be 1 r)) })
    ∧ (s.Asks f [25] → Settles .finisherRead s { s with
      link := s.link.answered (controlReply f .done 25 (s.locks.toList.flatMap s.holderWire)) })
    ∧ (∀ c : Media, b.toNat = c.val → s.Asks f [31, b] → Settles .rateRead s { s with
      link := s.link.answered (controlReply f .done 31
        (be 2 (tget s.meter.rates c).mono ++ be 2 (tget s.meter.rates c).colour)) })
    ∧ (s.Asks f [35] → Settles .maskRead s { s with
      link := s.link.answered (controlReply f .done 35 s.notices.mask.wire) })
    ∧ (∀ i : Station, b.toNat = i.val → s.Asks f [37, b] → Settles .stationRead s { s with
      link := s.link.answered (controlReply f .done 37 (be 1
        ((if (tget s.control.stations i).submit then 1 else 0)
          + (if (tget s.control.stations i).manage then 2 else 0)))) })
    ∧ (s.Asks f [39] → Settles .settingsRead s { s with
      link := s.link.answered (controlReply f .done 39
        (be 1 s.control.settings.alertRepeat ++ be 2 s.control.settings.meterPeriod
          ++ be 1 s.control.settings.stallLimit ++ be 1 s.control.settings.absentProbe
          ++ be 1 s.control.settings.faultPoll ++ be 2 s.control.settings.warmLimit
          ++ be 4 s.control.clock.toNat)) })
    ∧ (∀ (form x y : Byte) (j : JobSlot) (r : Job), form.toNat ≤ 1 → s.namedJob true (jobRef form b x y) = .ok j →
      s.slot j = some r → s.Asks f [1, form, b, x, y] → Settles .jobQuery s { s with
        link := s.link.answered (controlReply f .done 1 (s.jobData r)), freeTick := s.freeTick + 1 })
    ∧ (∀ p : Port, b.toNat = p.val → s.Asks f [10, b] → Settles .queueRead s { s with
        link := s.link.answered (controlReply f .done 10
          (slotList (s.queue p) ++ optional s.freeTick (3 + (s.queue p).length) 1
            ((s.claim p).map fun j => be 1 j.val)))
        freeTick := s.freeTick + 1 })
    ∧ (∀ p : Port, b.toNat = p.val → s.Asks f [14, b] → Settles .portQuery s { s with
        link := s.link.answered (controlReply f .done 14 (s.portData p)), freeTick := s.freeTick + 1 })
    ∧ (∀ a : Account, b.toNat = a.val → s.Asks f [29, b] → Settles .accountRead s { s with
        link := s.link.answered (controlReply f .done 29 (s.account a).wire) })
    ∧ (∀ p : Port, b.toNat = p.val → s.Asks f [33, b] → Settles .alertRead s { s with
        link := s.link.answered (controlReply f .done 33 ((s.alert p).readWire s.freeTick))
        freeTick := s.freeTick + 1 })
    ∧ (s.Asks f [41] → Settles .status s { s with
        link := s.link.answered (controlReply f .done 41
          (({ s with link := { s.link with controlBuf := s.link.controlBuf.tail } } : State).statusData))
        freeTick := s.freeTick + 1 }))
  ∧ (∀ s : State,
    let flag (b : Bool) : Byte := if b then 1 else 0
    let portByte (o : Option Port) : Option (List Byte) := o.map fun p => be 1 p.val
    (∀ r : Job, ∃ reason bound last why feed confirm outcome,
      OptionalField 1 (r.intake.reason.map fun x => [x.code]) reason ∧ OptionalField 1 (portByte r.boundPort) bound
      ∧ OptionalField 1 (portByte r.lastPort) last ∧ OptionalField 1 (r.cancel.map fun x => [x.code]) why
      ∧ CursorField r.feed.pos feed ∧ CursorField r.confirm confirm
      ∧ OptionalField 1 (r.outcome.map fun x => [x.code]) outcome
      ∧ s.jobData r = be 1 r.station.val ++ be 2 r.tag.toNat ++ be 1 r.account.val ++ be 1 r.dest.val
          ++ be 1 r.priority.val ++ be 2 r.copies ++ be 1 r.finishing.code
          ++ be 1 ((if r.needs.colour then 1 else 0) + (if r.needs.duplex then 2 else 0)) ++ be 2 r.needs.media.toNat
          ++ [r.intake.code] ++ reason ++ be 2 r.received ++ [r.phase.code] ++ bound ++ last
          ++ [flag r.held, flag r.creditStopped] ++ why ++ feed ++ confirm ++ be 2 r.copiesDone ++ be 4 r.delivered
          ++ be 4 r.charged ++ [flag r.releaseBehind] ++ outcome ++ be 3 (s.chain r).length)
    ∧ (∀ e : PortEntry, e.wire = [flag e.enabled] ++ be 1 e.pacing.val
        ++ [match e.finisher with | some u => BitVec.ofNat 8 u.val | none => 255] ++ be 1 e.standbyDelay
        ++ [e.restMode.code] ++ be 1 e.lightWarm ++ be 2 e.deepWarm)
    ∧ (∀ p : Port, let r := s.port p
      ∃ identity depth claim,
        OptionalField 6 (r.identity.map fun i => be 2 i.engineCode.toNat
          ++ be 1 ((if i.colour then 1 else 0) + (if i.duplex then 2 else 0) + (if i.connector then 4 else 0))
          ++ be 2 i.media.toNat ++ be 1 i.pathDepth) identity
        ∧ OptionalField 1 (r.restDepth.map fun x => [x.code]) depth
        ∧ OptionalField 1 ((s.claim p).map fun j => be 1 j.val) claim
        ∧ s.portData p = [r.state.code] ++ identity ++ depth ++ [flag r.offlinePending, commandCode r.outstanding]
            ++ (s.entry p).wire ++ claim ++ be 1 r.inFlight.length ++ be 4 r.sheetsFed.toNat ++ be 4 r.sheetsGood.toNat
            ++ be 4 r.sheetsSpoiled.toNat ++ be 2 r.underruns.toNat ++ be 2 r.strays.toNat)
    ∧ (∀ a : AccountRec, a.wire = [flag a.isOpen, flag a.unlimited] ++ be 1 a.scale ++ be 4 a.balance ++ be 4 a.reserved
        ++ be 1 a.inFlight ++ be 4 a.lowThreshold ++ [flag a.lowArmed] ++ be 4 a.chargedTotal ++ be 4 a.periodSheets
        ++ be 4 a.periodUnits ++ be 4 (if a.unlimited then 0 else a.balance - a.reserved))
    ∧ (∀ (a : AlertRec) (tick : Nat), ∃ kind location job position,
        OptionalField 1 (a.kind.map fun x => [x.code]) kind
        ∧ OptionalField 1 (a.location.map fun x => [x.code]) location
        ∧ OptionalField 3 (a.job.map fun x => be 1 x.1.val ++ be 2 x.2.toNat) job
        ∧ OptionalField 4 (a.position.map fun x => be 2 x.1 ++ be 2 x.2) position
        ∧ a.readWire tick = [a.state.code] ++ kind ++ location ++ job ++ position ++ be 1 a.occurrences
            ++ be 4 a.raised.toNat ++ [flag a.due])
    ∧ (s.holderWire .free = [0, 0, 0, 0, 0, 0] ∧ s.holderWire .management = [1, 0, 0, 0, 0, 0]
        ∧ ∀ j p r, s.slot j = some r → s.holderWire (.job j p)
            = [2] ++ be 1 j.val ++ be 1 r.station.val ++ be 2 r.tag.toNat ++ be 1 p.val)
    ∧ (∀ m : NoticeMask, m.wire = be 1 ((if m.alert then 1 else 0) + (if m.jobEnd then 2 else 0)
        + (if m.account then 4 else 0) + (if m.meter then 8 else 0)))
    ∧ (∃ flow, OptionalField 1 (s.link.lastFlow.map fun x => [x.code]) flow
      ∧ s.statusData = be 1 ((if s.link.flags.frameCheck then 1 else 0) + (if s.link.flags.overrun then 2 else 0)
          + (if s.link.flags.controlOverrun then 4 else 0) + (if s.link.flags.unknownJob then 8 else 0)
          + (if s.link.flags.notPermitted then 16 else 0)) ++ [s.link.state.code] ++ be 1 s.link.intakeBuf.length
          ++ be 1 s.link.controlBuf.length ++ be 1 s.link.replies.length ++ flow
          ++ be 1 ((List.finRange 8).filter fun i => (tget s.intake.slots i).isSome).length
          ++ [if s.intake.stalled = none then 0 else 1] ++ be 3 s.spool.pool.length ++ be 1 s.jobs.ended.length
          ++ be 4 s.control.clock.toNat)
    ∧ ∀ tick offset k v, OptionalField k v (optional tick offset k v))
  ∧ [PortState.absent, .probing, .offline, .standby, .waking, .ready, .running, .ending, .faulted].map PortState.code
      = [0, 1, 2, 3, 4, 5, 6, 7, 8]
  ∧ [IntakePhase.receiving, .complete, .broken .gap].map IntakePhase.code = [0, 1, 2]
  ∧ [BrokenReason.gap, .undeclared, .spoolFull, .linkDown].map BrokenReason.code = [1, 2, 3, 4]
  ∧ [PrintPhase.unbound, .queued, .claimed, .finished].map PrintPhase.code = [0, 1, 2, 3]
  ∧ [CancelReason.station, .management, .purge, .broken].map CancelReason.code = [1, 2, 3, 4]
  ∧ [JobOutcome.done, .cancelled, .broken].map JobOutcome.code = [1, 2, 3]
  ∧ [Finishing.noFinish, .staple, .fold, .bind].map Finishing.code = [0, 1, 2, 3]
  ∧ [none, some Command.probe, some .sense, some .warm, some .rest, some .run].map commandCode = [0, 1, 2, 3, 4, 5]
  ∧ [AlertState.idle, .activeUnacked, .activeAcked, .clearedUnacked].map AlertState.code = [0, 1, 2, 3]
  ∧ [AlertKind.jam, .transit, .mediaOut, .coverOpen, .finisherFault, .engineFault, .noAnswer, .warmFail,
      .countMismatch].map AlertKind.code = [1, 2, 3, 4, 5, 6, 7, 8, 9]
  ∧ [JamLocation.feed, .path, .exit].map JamLocation.code = [1, 2, 3]
  ∧ [LinkState.down, .up].map LinkState.code = [0, 1] ∧ [Flow.hold, .go].map Flow.code = [1, 2]
  ∧ [RestMode.light, .deep].map RestMode.code = [0, 1]

/-- The writes that change neither jobs nor ports: PACING WRITE (R98), RANK WRITE, which swaps two ranks (R109), MASK
WRITE (R170), STATION WRITE, refused IN-USE when no station would hold MANAGE (R38, R175), SET CLOCK (R178), CLEAR
STATUS (R180). -/
def Obligations.ControlWrites : Prop :=
  ∀ (s : State) (f : Frame) (a b x y z : Byte),
    (∀ c : PacingClass, a.toNat = c.val → s.Asks f [19, a, b, x, y, z] → Settles .pacingWrite s { s with
      link := s.link.answered
        (controlReply f (if y.toNat * 256 + z.toNat < 100 then .clamped else .done) 19 [])
      control := { s.control with
        pacing := tset s.control.pacing c ⟨b.toNat * 256 + x.toNat, max 100 (y.toNat * 256 + z.toNat)⟩ } })
    ∧ (∀ q : Requester, a.toNat = q.val → s.Asks f [21, a, b] →
      ∃ ranks, Settles .rankWrite s { s with
          link := s.link.answered (controlReply f (if 16 < b.toNat then .clamped else .done) 21 [])
          spool := { s.spool with ranks := ranks } }
        ∧ tget ranks q = min 16 b.toNat
        ∧ ∀ q', q' ≠ q → tget ranks q' =
            if tget s.spool.ranks q' = min 16 b.toNat then tget s.spool.ranks q else tget s.spool.ranks q')
    ∧ (s.Asks f [34, a] → Settles .maskWrite s { s with
      link := s.link.answered (controlReply f .done 34 [])
      notices := { s.notices with mask := ⟨a.getLsbD 0, a.getLsbD 1, a.getLsbD 2, a.getLsbD 3⟩ } })
    ∧ (s.Asks f [36, a, b, x, y] → (b ≠ 0 ∨ x ≠ 0) → a.toNat + (b.toNat * 256 + x.toNat) ≤ 256 →
      ∃ v : Vector Permissions 256,
        (∀ i, tget v i = if a.toNat ≤ i.val ∧ i.val < a.toNat + (b.toNat * 256 + x.toNat) then
            ⟨y.getLsbD 0, y.getLsbD 1⟩ else tget s.control.stations i)
        ∧ ((∃ i, (tget v i).manage = true) → Settles .stationWrite s { s with
            link := s.link.answered (controlReply f .done 36 []), control := { s.control with stations := v } })
        ∧ ((∀ i, (tget v i).manage = false) → Refused .stationWrite 36 s f .inUse))
    ∧ (s.Asks f [40, a, b, x, y] → Settles .setClock s { s with
      link := s.link.answered (controlReply f .done 40 [])
      control := { s.control with
        clock := BitVec.ofNat 32 (((a.toNat * 256 + b.toNat) * 256 + x.toNat) * 256 + y.toNat) } })
    ∧ (s.Asks f [42, a] → Settles .clearStatus s { s with link := { s.link.answered (controlReply f .done 42 []) with
      flags := ⟨s.link.flags.frameCheck && !a.getLsbD 0, s.link.flags.overrun && !a.getLsbD 1,
        s.link.flags.controlOverrun && !a.getLsbD 2, s.link.flags.unknownJob && !a.getLsbD 3,
        s.link.flags.notPermitted && !a.getLsbD 4⟩ } })

/-- SETTINGS WRITE stores the selected settings, each at the nearest end of its range when outside it (CLAMPED); a
write of the meter period restarts the meter period timer, or leaves it stopped for 0 (R175, R177, R149). -/
def Obligations.SettingsWritten : Prop :=
  ∀ (s : State) (f : Frame) (sel rep m1 m0 stall absent poll w1 w0 : Byte),
    s.Asks f [38, sel, rep, m1, m0, stall, absent, poll, w1, w0] →
    let m := m1.toNat * 256 + m0.toNat
    let w := w1.toNat * 256 + w0.toNat
    let o := s.control.settings
    let low (n : Nat) : Nat := if n = 0 then 1 else n
    ∃ code, Settles .settingsWrite s { s with
        link := s.link.answered (controlReply f code 38 [])
        control := { s.control with
          settings := {
            alertRepeat := if sel.getLsbD 0 then low rep.toNat else o.alertRepeat
            meterPeriod := if sel.getLsbD 1 then min m 1440 else o.meterPeriod
            stallLimit := if sel.getLsbD 2 then low stall.toNat else o.stallLimit
            absentProbe := if sel.getLsbD 3 then low absent.toNat else o.absentProbe
            faultPoll := if sel.getLsbD 4 then low poll.toNat else o.faultPoll
            warmLimit := if sel.getLsbD 5 then max 10 (min w 600) else o.warmLimit } }
        meter := { s.meter with
          periodTimer := if sel.getLsbD 1 then (if m = 0 then none else some (min m 1440 * 60000))
            else s.meter.periodTimer } }
      ∧ (code = .clamped ↔ (sel.getLsbD 0 = true ∧ rep = 0) ∨ (sel.getLsbD 1 = true ∧ 1440 < m)
          ∨ (sel.getLsbD 2 = true ∧ stall = 0) ∨ (sel.getLsbD 3 = true ∧ absent = 0)
          ∨ (sel.getLsbD 4 = true ∧ poll = 0) ∨ (sel.getLsbD 5 = true ∧ (w < 10 ∨ 600 < w)))
      ∧ (code = .clamped ∨ code = .done)

/-- FINISHER LOCK (R129) is a test-and-set: a free lock becomes MANAGEMENT's, answered DONE; a held one is answered
HELD with its holder, and nothing changes. FINISHER UNLOCK (R130) releases a management hold, answered DONE, and the
grant of R127 follows at the same event; a job's lock is answered IN-USE and kept; a free one DONE. A unit above 3 is
BAD-INDEX. -/
def Obligations.FinisherLockRequests : Prop :=
  (∀ (s : State) (f : Frame) (b : Byte), s.Asks f [23, b] →
    (∀ u : FinUnit, b.toNat = u.val →
      (s.lock u = .free → Settles .finisherLock s { s with
        link := s.link.answered (controlReply f .done 23 []), locks := tset s.locks u .management })
      ∧ (s.lock u = .management → Settles .finisherLock s { s with
        link := s.link.answered (controlReply f .held 23 [1, 0, 0, 0, 0, 0]) })
      ∧ ∀ j p r, s.lock u = .job j p → s.slot j = some r → Settles .finisherLock s { s with
        link := s.link.answered (controlReply f .held 23
          ([2] ++ be 1 j.val ++ be 1 r.station.val ++ be 2 r.tag.toNat ++ be 1 p.val)) })
    ∧ (4 ≤ b.toNat → Refused .finisherLock 23 s f .badIndex))
  ∧ ∀ (s : State) (f : Frame) (b : Byte), s.Asks f [24, b] →
    (∀ u : FinUnit, b.toNat = u.val →
      (s.lock u = .management → exec .finisherUnlock s = .next (State.closing s { s with
        link := s.link.answered (controlReply f .done 24 []), locks := tset s.locks u .free }))
      ∧ (∀ j p, s.lock u = .job j p → Refused .finisherUnlock 24 s f .inUse)
      ∧ (s.lock u = .free → exec .finisherUnlock s = .next (State.closing s { s with
        link := s.link.answered (controlReply f .done 24 []) })))
    ∧ (4 ≤ b.toNat → Refused .finisherUnlock 24 s f .badIndex)

/-- The grant of R127 for a lock that an event has released: among the ports that contend for it (R125: the port names
the unit, holds no claim, and stands in READY or STANDBY with no command outstanding, and the first job of its queue
that passes tests 1 to 4 of R100 needs a finisher), the lock goes to the job that comes first by priority, then by
place in the bind order, then by port number; without a contender it stays free. A lock that the event did not release
is not granted here. That the grant comes at the end of the event, and who contends, is the model's reading (log 13). -/
def Obligations.LockGranted : Prop :=
  (∀ (s : State) (f : FinUnit) (p q : Port) (j : JobSlot), s.contender f p = some (q, j) ↔
    q = p ∧ (s.entry p).finisher = some f ∧ s.claim p = none
      ∧ ((s.port p).state = .ready ∨ (s.port p).state = .standby) ∧ (s.port p).outstanding = none
      ∧ (∃ a b, s.queue p = a ++ j :: b ∧ s.PassesTests j ∧ ∀ k ∈ a, ¬ s.PassesTests k)
      ∧ ∃ r, s.slot j = some r ∧ r.finishing ≠ .noFinish)
  ∧ (∀ s : State, s.ComparesByR66)
  ∧ ∀ (before s : State) (f : FinUnit),
    ((before.lock f = .free ∨ s.lock f ≠ .free) → State.grantLock before s f = s)
    ∧ ((∀ p, s.contender f p = none) → State.grantLock before s f = s)
    ∧ (before.lock f ≠ .free → s.lock f = .free → (∃ p, s.contender f p ≠ none) →
        ∃ p j, s.contender f p = some (p, j) ∧ State.grantLock before s f = s.claimAndGo p j
          ∧ (State.grantLock before s f).lock f = .job j p ∧ (State.grantLock before s f).claim p = some j
          ∧ (∀ q k, s.contender f q = some (q, k) → s.queueBefore k j = false
              ∧ (s.queueBefore j k = false → p.val ≤ q.val))
          ∧ ∃ x, s.slot j = some x ∧ ∀ q k y, s.contender f q = some (q, k) → s.slot k = some y →
              let place (i : JobSlot) : Nat := s.binder.bindOrder.idxOf i
              x.priority < y.priority
                ∨ (x.priority = y.priority ∧ (place j < place k ∨ (place j = place k ∧ p.val ≤ q.val))))

/-- ALERT ACK (R159): the count of an unacked record moves ACTIVE-UNACKED to ACTIVE-ACKED and CLEARED-UNACKED to IDLE,
no longer due and its timer stopped, answered DONE; any other count, and an acked or IDLE record, is answered STALE; a
port above 15 is BAD-INDEX. Nothing else changes. -/
def Obligations.AlertAcknowledged : Prop :=
  ∀ (s : State) (f : Frame) (b n : Byte), s.Asks f [32, b, n] →
    (∀ p : Port, b.toNat = p.val →
      ((s.alert p).state = .activeUnacked → n.toNat = (s.alert p).occurrences → Settles .alertAck s { s with
        link := s.link.answered (controlReply f .done 32 [])
        alerts := tset s.alerts p { s.alert p with state := .activeAcked, due := false, repeatTimer := none } })
      ∧ ((s.alert p).state = .clearedUnacked → n.toNat = (s.alert p).occurrences → Settles .alertAck s { s with
        link := s.link.answered (controlReply f .done 32 [])
        alerts := tset s.alerts p { s.alert p with state := .idle, due := false, repeatTimer := none } })
      ∧ (n.toNat ≠ (s.alert p).occurrences → Refused .alertAck 32 s f .stale)
      ∧ ((s.alert p).state = .activeAcked ∨ (s.alert p).state = .idle → Refused .alertAck 32 s f .stale))
    ∧ (16 ≤ b.toNat → Refused .alertAck 32 s f .badIndex)

/-- HOLD and RELEASE of a live job (R179, R119): the held flag is set, and a port that feeds the job sends END; or the
flag is cleared. Both are answered DONE in every state of the job, and no other job changes. -/
def Obligations.HoldAndRelease : Prop :=
  ∀ (s : State) (f : Frame) (form a b c : Byte) (j : JobSlot) (r : Job), form.toNat ≤ 1 →
    s.namedJob false (jobRef form a b c) = .ok j → s.slot j = some r →
    (s.Asks f [2, form, a, b, c] → Leads .hold s fun u =>
      u = { s with
        link := s.link.answered (controlReply f .done 2 [])
        jobs := { s.jobs with recs := tset s.jobs.recs j (some { r with held := true }) }
        ports := u.ports, pressOut := u.pressOut }
      ∧ s.EndsFeeding u j)
    ∧ (s.Asks f [3, form, a, b, c] → exec .release s = .next (State.closing s { s with
        link := s.link.answered (controlReply f .done 3 [])
        jobs := { s.jobs with recs := tset s.jobs.recs j (some { r with held := false }) } }))

/-- LINK DOWN, CANCEL and PURGE stop jobs (R4, R6, R7, R23, R24, R59, R120, R179; State.StopsJobs says what it is to
be stopped). LINK DOWN on a link that is UP: buffers, reply queue and transmitter are emptied, the flow target is GO,
the last FLOW absent, the flags kept (R26); each RECEIVING job becomes BROKEN with reason LINK-DOWN and cancel reason
BROKEN and its intake slot is free; no stall is left; other jobs and the tables are kept. On a link that is DOWN it is
no event (R25). CANCEL of a live job: cancel requested takes reason MANAGEMENT unless it is set; PURGE does so for
every live job, with reason PURGE. A job without an open run ends at once; one with an open run goes on, its port
sending END; a receiving job leaves RECEIVING, and after PURGE and LINK DOWN no intake slot is held and the write list
holds at most the granted write. -/
def Obligations.JobsStopped : Prop :=
  (∀ (s : State) (j : JobSlot),
    (∀ p, s.claimPort j = some p ↔ s.claim p = some j ∧ ∀ q < p, s.claim q ≠ some j)
    ∧ (s.runOpenFor j = true ↔ ∃ p, s.claimPort j = some p ∧ (s.port p).runOpen = true))
  ∧ (∀ s : State,
    (s.link.state = .up → ∃ u t, exec .linkDown s = .next t ∧ t = State.closing s u
        ∧ s.StopsJobs u (fun _ r => decide (r.intake = .receiving)) (fun _ => .broken .linkDown)
            (fun r => r.cancel.getD .broken)
        ∧ u.link = ⟨.down, [], [], [], .go, none, s.link.flags, none⟩
        ∧ (s.IntakeLegal → (∀ i, tget u.intake.slots i = none)
            ∧ u.intake.writeList.length ≤ (if s.spool.granted = some .write then 1 else 0))
        ∧ t.link = u.link ∧ t.intake.slots = u.intake.slots ∧ t.intake.stalled = none ∧ t.intake.stallTimer = none
        ∧ (∀ j r, t.live j = some r → r.intake ≠ .receiving)
        ∧ (∀ j r, s.live j = some r → r.intake ≠ .receiving → ∃ r', t.live j = some r' ∧ r'.intake = r.intake
            ∧ r'.cancel = r.cancel ∧ r'.received = r.received ∧ r'.held = r.held
            ∧ r'.creditStopped = r.creditStopped)
        ∧ t.table = s.table ∧ t.control = s.control ∧ t.meter = s.meter ∧ t.alerts = s.alerts
        ∧ t.notices = s.notices ∧ t.binder.routes = s.binder.routes)
    ∧ (s.link.state = .down → exec .linkDown s = .next s))
  ∧ (∀ (s : State) (f : Frame) (form a b c : Byte) (j : JobSlot) (r : Job), form.toNat ≤ 1 →
    s.namedJob false (jobRef form a b c) = .ok j → s.live j = some r → s.Asks f [4, form, a, b, c] →
    (r.cancel ≠ none → exec .cancel s = .next (State.closing s { s with
      link := s.link.answered (controlReply f .done 4 []) }))
    ∧ (r.cancel = none → Leads .cancel s fun u =>
        u.link = s.link.answered (controlReply f .done 4 [])
        ∧ s.StopsJobs u (fun k _ => decide (k = j))
            (fun x => if x.intake = .receiving then .complete else x.intake) (fun _ => .management)
        ∧ s.EndsFeeding u j))
  ∧ ∀ (s : State) (f : Frame), s.Asks f [7] →
    Leads .purge s fun u =>
      u.link = s.link.answered (controlReply f .done 7 [])
      ∧ s.StopsJobs u (fun _ r => decide (r.cancel = none))
          (fun r => if r.intake = .receiving then .complete else r.intake) (fun _ => .purge)
      ∧ (s.IntakeLegal → (∀ i, tget u.intake.slots i = none)
          ∧ u.intake.writeList.length ≤ (if s.spool.granted = some .write then 1 else 0))

/-- MOVE (R73): STARTED for a claimed job, DONE without effect for a job queued on the port, INELIGIBLE, NO-ROOM, and
else the job leaves its run queue or the unbound list and joins the port's run queue and the back of the bind order,
behind which only the jobs stand that a re-examination of the freed entry has bound; jobs already queued keep their
order. The port is eligible under the five conditions of R61. The binding (R63): of the eligible ports with room, that
whose run queue is shortest, the lowest-numbered of several. The re-examination (R68): jobs leave the unbound list, in
its order, only for a run queue of an eligible port with room, the others keep their order, none is left that could be
bound, jobs already queued and the earlier bind order keep their places, and nothing else changes. -/
def Obligations.MoveAndReexamination : Prop :=
  (∀ (s : State) (f : Frame) (form a b c n : Byte) (j : JobSlot) (r : Job) (p : Port), form.toNat ≤ 1 →
    n.toNat = p.val → s.namedJob false (jobRef form a b c) = .ok j → s.slot j = some r →
    s.Asks f [5, form, a, b, c, n] →
    (r.phase = .claimed → Refused .move 5 s f .started)
    ∧ (r.phase = .queued → r.boundPort = some p → exec .move s = .next (State.closing s { s with
        link := s.link.answered (controlReply f .done 5 []) }))
    ∧ (r.phase ≠ .claimed → ¬ (r.phase = .queued ∧ r.boundPort = some p) →
        (s.eligible r p = false → Refused .move 5 s f .ineligible)
        ∧ (s.eligible r p = true → 8 ≤ (s.queue p).length → Refused .move 5 s f .noRoom)
        ∧ (s.eligible r p = true → (s.queue p).length < 8 → Leads .move s fun u =>
            u.link = s.link.answered (controlReply f .done 5 [])
            ∧ u.slot j = some { r with phase := .queued, boundPort := some p } ∧ j ∈ u.queue p
            ∧ (∀ q, q ≠ p → j ∉ u.queue q) ∧ j ∉ u.binder.unbound
            ∧ (∃ more, u.binder.bindOrder = s.binder.bindOrder.filter (fun k => decide (k ≠ j)) ++ j :: more
                ∧ more.Sublist s.binder.unbound ∧ ((∀ q, j ∉ s.queue q) → more = []))
            ∧ (∀ q, ((s.queue q).filter fun k => decide (k ≠ j)).Sublist (u.queue q))
            ∧ ((∀ q, j ∉ s.queue q) → u.queue p = insertBefore u.queueBefore j (s.queue p)
                ∧ u.Joins j (s.queue p) (u.queue p) ∧ ∀ q, q ≠ p → u.queue q = s.queue q)
            ∧ u.ComparesByR66
            ∧ (∀ k, k ≠ j → k ∉ s.binder.unbound → u.slot k = s.slot k)
            ∧ u.binder.unbound.Sublist s.binder.unbound ∧ u.jobs.ended = s.jobs.ended
            ∧ u.binder.routes = s.binder.routes ∧ u.intake = s.intake ∧ u.spool = s.spool ∧ u.table = s.table
            ∧ u.binder.claims = s.binder.claims ∧ u.ports = s.ports ∧ u.meter = s.meter ∧ u.locks = s.locks
            ∧ u.alerts = s.alerts ∧ u.notices = s.notices ∧ u.control = s.control ∧ u.pressOut = s.pressOut)))
  ∧ (∀ (i : Identity) (e : PortEntry) (r : Job), identityFits i e r = true ↔
      (r.needs.colour = true → i.colour = true) ∧ (r.needs.duplex = true → i.duplex = true)
      ∧ (∀ m : Media, r.needs.media.getLsbD m.val = true → i.media.getLsbD m.val = true)
      ∧ (r.finishing = .noFinish ∨ (e.finisher ≠ none ∧ i.connector = true)))
  ∧ (∀ (s : State) (r : Job) (p : Port), s.eligible r p = true ↔
      (tget s.binder.routes r.dest).getLsbD p.val = true ∧ (s.entry p).enabled = true
      ∧ (s.port p).state ≠ .absent ∧ (s.port p).state ≠ .offline
      ∧ ∃ i, (s.port p).identity = some i
        ∧ (r.needs.colour = true → i.colour = true) ∧ (r.needs.duplex = true → i.duplex = true)
        ∧ (∀ m : Media, r.needs.media.getLsbD m.val = true → i.media.getLsbD m.val = true)
        ∧ (r.finishing = .noFinish ∨ ((s.entry p).finisher ≠ none ∧ i.connector = true)))
  ∧ (∀ (s : State) (r : Job),
    (s.bestPort r = none ↔ ∀ q, s.eligible r q = true → 8 ≤ (s.queue q).length)
    ∧ ∀ p, s.bestPort r = some p ↔ s.eligible r p = true ∧ (s.queue p).length < 8
        ∧ ∀ q, s.eligible r q = true → (s.queue q).length < 8 →
            (s.queue p).length < (s.queue q).length ∨ ((s.queue p).length = (s.queue q).length ∧ p ≤ q))
  ∧ ∀ s : State,
    let t := s.reexamine
    t = { s with jobs := t.jobs, binder := t.binder } ∧ t.jobs.ended = s.jobs.ended
    ∧ t.binder.claims = s.binder.claims ∧ t.binder.routes = s.binder.routes
    ∧ t.binder.unbound.Sublist s.binder.unbound
    ∧ (∀ j ∈ t.binder.unbound, ∀ r, s.slot j = some r → t.bestPort r = none)
    ∧ (∀ j ∈ s.binder.unbound, j ∉ t.binder.unbound → ∃ p r, s.slot j = some r ∧ s.eligible r p = true
        ∧ (s.queue p).length < 8 ∧ j ∈ t.queue p ∧ j ∈ t.binder.bindOrder
        ∧ t.slot j = some { r with phase := .queued, boundPort := some p })
    ∧ (∀ j rest r p, s.binder.unbound = j :: rest → s.binder.unbound.Nodup → s.slot j = some r →
        s.bestPort r = some p → j ∈ t.queue p)
    ∧ (∀ j, j ∉ s.binder.unbound ∨ j ∈ t.binder.unbound → t.slot j = s.slot j)
    ∧ (∃ more, t.binder.bindOrder = s.binder.bindOrder ++ more ∧ more.Sublist s.binder.unbound)
    ∧ ∀ q, (s.queue q).Sublist (t.queue q) ∧ (t.queue q = s.queue q ∨ (t.queue q).length ≤ 8)

/-- PRIORITY (R74): the priority is set, a value above 3 as 3 (CLAMPED); a job in a run queue moves to its place by
the new priority, the bind order, the unbound list and the claims stay, and no other job changes. -/
def Obligations.PrioritySet : Prop :=
  ∀ (s : State) (f : Frame) (form a b c n : Byte) (j : JobSlot) (r : Job), form.toNat ≤ 1 →
    s.namedJob false (jobRef form a b c) = .ok j → s.slot j = some r → s.Asks f [6, form, a, b, c, n] →
    Leads .priority s fun u =>
      u = { s with
        link := s.link.answered (controlReply f (if 3 < n.toNat then .clamped else .done) 6 [])
        jobs := { s.jobs with
          recs := tset s.jobs.recs j (some { r with priority := ⟨min n.toNat 3, by omega⟩ }) }
        binder := { s.binder with queues := u.binder.queues } }
      ∧ (∀ p, j ∉ s.queue p → u.queue p = s.queue p)
      ∧ ∀ p, j ∈ s.queue p → (∀ q, j ∈ s.queue q → q = p) →
          u.queue p = insertBefore u.queueBefore j ((s.queue p).filter fun k => decide (k ≠ j))
          ∧ u.Joins j ((s.queue p).filter fun k => decide (k ≠ j)) (u.queue p) ∧ u.ComparesByR66

/-- ROUTE WRITE replaces a port set and starts a re-examination (R60, R68); RATE WRITE stores both rates, at most
4,095 (CLAMPED), and clears the credit-stopped flag of every live job (R135, R143). -/
def Obligations.RouteAndRateWritten : Prop :=
  (∀ (s : State) (r : Reply),
    s.takeControl = { s with link := { s.link with controlBuf := s.link.controlBuf.tail } }
    ∧ s.placeReply r = { s with link := { s.link with replies := s.link.replies ++ [r] } })
  ∧ ∀ (s : State) (f : Frame) (b x y z w : Byte),
    (∀ c : DestClass, b.toNat = c.val → s.Asks f [8, b, x, y] →
      exec .routeWrite s = .next (State.closing s (State.placeReply
        (State.reexamine { s.takeControl with
          binder := { s.binder with routes := tset s.binder.routes c (BitVec.ofNat 16 (x.toNat * 256 + y.toNat)) } })
        (controlReply f .done 8 []))))
    ∧ ∀ c : Media, b.toNat = c.val → s.Asks f [30, b, x, y, z, w] →
      Leads .rateWrite s fun u =>
        u = { s with
          link := s.link.answered (controlReply f
            (if 4095 < x.toNat * 256 + y.toNat ∨ 4095 < z.toNat * 256 + w.toNat then .clamped else .done) 30 [])
          meter := { s.meter with
            rates := tset s.meter.rates c
              ⟨min 4095 (x.toNat * 256 + y.toNat), min 4095 (z.toNat * 256 + w.toNat)⟩ }
          jobs := u.jobs }
        ∧ u.jobs.ended = s.jobs.ended
        ∧ ∀ j, u.slot j = (s.slot j).map fun r => if r.outcome = none then { r with creditStopped := false } else r

/-- PORT TABLE WRITE (R77, R78, R88, R174): the selected fields are stored, clamped, but the finisher unit when the
port's claimed job holds a lock and the unit would change (IN-USE); the reply is CLAMPED when a selected field was
stored at an end of its range; the standby timer of an idle port restarts with a written delay; a finisher unit NONE
takes the port's unclaimed finishing jobs out of its queue to the front of the unbound list, in run-queue order, and
any other unit none; a written finisher unit, or enabled written yes, starts a re-examination; any other write moves
no job. When a re-examination follows, and which of two reply codes stands, is the model's reading (log 24). -/
def Obligations.PortTableWritten : Prop :=
  (∀ (s : State) (p : Port), s.claimHoldsLock p = true ↔ ∃ j f q, s.claim p = some j ∧ s.lock f = .job j q)
  ∧ ∀ (s : State) (f : Frame) (b sel en pac fin del rest light d1 d0 : Byte) (p : Port), b.toNat = p.val →
    rest.toNat ≤ 1 → s.Asks f [12, b, sel, en, pac, fin, del, rest, light, d1, d0] →
    let unit : Option FinUnit := if fin = 255 then none else some ⟨min fin.toNat 3, by omega⟩
    let inUse : Bool := sel.getLsbD 2 && s.claimHoldsLock p && decide (unit ≠ (s.entry p).finisher)
    Leads .portTableWrite s fun u =>
      u.entry p =
        { enabled := if sel.getLsbD 0 then decide (en ≠ 0) else (s.entry p).enabled
          pacing := if sel.getLsbD 1 then ⟨min pac.toNat 3, by omega⟩ else (s.entry p).pacing
          finisher := if sel.getLsbD 2 && !inUse then unit else (s.entry p).finisher
          standbyDelay := if sel.getLsbD 3 then min 240 del.toNat else (s.entry p).standbyDelay
          restMode := if sel.getLsbD 4 then (if rest = 0 then .light else .deep) else (s.entry p).restMode
          lightWarm := if sel.getLsbD 5 then max 1 (min light.toNat 60) else (s.entry p).lightWarm
          deepWarm := if sel.getLsbD 6 then max 1 (min (d1.toNat * 256 + d0.toNat) 600) else (s.entry p).deepWarm }
      ∧ (∀ q, q ≠ p → u.entry q = s.entry q)
      ∧ (inUse = true → u.link = s.link.answered (controlReply f .inUse 12 []))
      ∧ (inUse = false → u.link = s.link.answered (controlReply f
          (if (sel.getLsbD 1 = true ∧ 3 < pac.toNat) ∨ (sel.getLsbD 2 = true ∧ fin ≠ 255 ∧ 3 < fin.toNat)
            ∨ (sel.getLsbD 3 = true ∧ 240 < del.toNat)
            ∨ (sel.getLsbD 5 = true ∧ (light.toNat < 1 ∨ 60 < light.toNat))
            ∨ (sel.getLsbD 6 = true ∧ (d1.toNat * 256 + d0.toNat < 1 ∨ 600 < d1.toNat * 256 + d0.toNat))
            then .clamped else .done) 12 []))
      ∧ (sel.getLsbD 2 = true → inUse = false → unit = none → ∀ j ∈ s.queue p, ∀ r, s.slot j = some r →
          (j ∈ u.queue p ↔ r.finishing = .noFinish ∨ s.claim p = some j))
      ∧ (unit ≠ none ∨ inUse = true ∨ sel.getLsbD 2 = false → (s.queue p).Sublist (u.queue p))
      ∧ (∀ q, q ≠ p → ((s.queue q).filter fun j => decide (j ∉ s.queue p)).Sublist (u.queue q))
      ∧ ((sel.getLsbD 2 = true ∧ inUse = false) ∨ (sel.getLsbD 0 = true ∧ en ≠ 0) →
          ∀ j ∈ u.binder.unbound, ∀ r, u.slot j = some r → u.bestPort r = none)
      ∧ (∀ q, u.port q = if q = p ∧ sel.getLsbD 3 = true ∧ s.idle p = true then
            { s.port p with standbyTimer := if del = 0 then none else some (min 240 del.toNat * 60000) }
          else s.port q)
      ∧ ((sel.getLsbD 2 = true ∧ inUse = false) ∨ (sel.getLsbD 0 = true ∧ en ≠ 0) → s.Displaces u
          (if sel.getLsbD 2 = true ∧ inUse = false ∧ unit = none then
            (s.queue p).filter fun j => (s.slot j).any (fun r => decide (r.finishing ≠ .noFinish))
              && decide (s.claim p ≠ some j)
          else []))
      ∧ ((sel.getLsbD 2 = false ∨ inUse = true) → (sel.getLsbD 0 = false ∨ en = 0) →
          u.jobs = s.jobs ∧ u.binder = s.binder)
      ∧ u.locks = s.locks ∧ u.meter = s.meter ∧ u.alerts = s.alerts ∧ u.spool = s.spool ∧ u.pressOut = s.pressOut

/-- PORT PROBE (R96): an ABSENT port's absent-probe timer stops, it enters PROBING and sends PROBE, answered DONE;
PROBING, WAKING, RUNNING and ENDING are answered BUSY, OFFLINE, STANDBY, READY and FAULTED BAD-REQUEST, without
effect. -/
def Obligations.PortProbed : Prop :=
  ∀ (s : State) (f : Frame) (b : Byte) (p : Port), b.toNat = p.val → s.Asks f [17, b] →
    ((s.port p).state = .absent → exec .portProbe s = .next (State.closing s { s with
      link := s.link.answered (controlReply f .done 17 [])
      ports := tset s.ports p ({ s.port p with state := .probing, absentProbeTimer := none }.sends .probe)
      pressOut := s.pressOut ++ [(p, .probe)] }))
    ∧ ((s.port p).state = .probing ∨ (s.port p).state = .waking ∨ (s.port p).state = .running
        ∨ (s.port p).state = .ending → Refused .portProbe 17 s f .busy)
    ∧ ((s.port p).state = .offline ∨ (s.port p).state = .standby ∨ (s.port p).state = .ready
        ∨ (s.port p).state = .faulted → Refused .portProbe 17 s f .badRequest)

/-- PORT OFFLINE, PORT ONLINE (R94) and PORT RESET (R95), each answered DONE in every state: a running port is told to
finish and goes OFFLINE later, any other goes OFFLINE at once with its queue displaced to the front of the unbound
list, the entries so freed starting a re-examination and an empty queue starting none (R70, R68); ONLINE probes an
OFFLINE port and withdraws a pending offline; RESET abandons what is outstanding and any run, spoils what is in
flight, releases the claim with its lock and probes, keeping identity, counters and alert record; its claimed job is
rewound (R20) and the run queue and bind order stand as they are, unless the job was done or cancelled and ends (R8). -/
def Obligations.PortsManaged : Prop :=
  ∀ (s : State) (f : Frame) (b : Byte) (p : Port), b.toNat = p.val →
    (s.Asks f [15, b] →
      ((s.port p).state = .offline → exec .portOffline s = .next (State.closing s { s with
        link := s.link.answered (controlReply f .done 15 []) }))
      ∧ ((s.port p).state = .running ∨ (s.port p).state = .ending → Leads .portOffline s fun u =>
          u = { s with link := s.link.answered (controlReply f .done 15 []), ports := u.ports, pressOut := u.pressOut }
          ∧ if (s.port p).state = .running ∧ (s.port p).executing = true ∧ (s.port p).endSent = false then
              s.OnlyPort u p { s.port p with
                state := .ending, offlinePending := true, endSent := true,
                endTimer := some ((s.port p).endTimer.getD 30000) }
              ∧ u.pressOut = s.pressOut ++ [(p, .endRun)]
            else s.OnlyPort u p { s.port p with offlinePending := true } ∧ u.pressOut = s.pressOut)
      ∧ ((s.port p).state ≠ .offline → (s.port p).state ≠ .running → (s.port p).state ≠ .ending →
          Leads .portOffline s fun u => u.link = s.link.answered (controlReply f .done 15 [])
            ∧ s.OnlyPort u p { (s.port p).enters .offline with
                outstanding := none, answerTimer := none, standbyTimer := none, absentProbeTimer := none,
                gapTimer := none, offlinePending := false }
            ∧ s.LosesQueue u p ∧ u.meter = s.meter ∧ u.alerts = s.alerts
            ∧ (s.claim p = none → s.queue p = [] → u.jobs = s.jobs ∧ u.binder = s.binder)
            ∧ (s.queue p ≠ [] → ∀ k ∈ u.binder.unbound, ∀ r, u.slot k = some r → u.bestPort r = none)
            ∧ u.pressOut = s.pressOut ∧ u.table = s.table ∧ u.control = s.control))
    ∧ (s.Asks f [16, b] →
      ((s.port p).state = .offline → exec .portOnline s = .next (State.closing s { s with
        link := s.link.answered (controlReply f .done 16 [])
        ports := tset s.ports p ({ s.port p with state := .probing, absentProbeTimer := none }.sends .probe)
        pressOut := s.pressOut ++ [(p, .probe)] }))
      ∧ ((s.port p).state ≠ .offline → exec .portOnline s = .next (State.closing s { s with
        link := s.link.answered (controlReply f .done 16 [])
        ports := tset s.ports p { s.port p with offlinePending := false } })))
    ∧ (s.Asks f [18, b] → Leads .portReset s fun u =>
        u.link = s.link.answered (controlReply f .done 18 [])
        ∧ (u.port p).state = .probing ∧ (u.port p).outstanding = some .probe ∧ (u.port p).answerTimer = some 250
        ∧ (u.port p).runOpen = false ∧ (u.port p).offlinePending = false
        ∧ (u.port p).endTimer = none ∧ (u.port p).standbyTimer = none ∧ (u.port p).warmTimer = none
        ∧ (u.port p).warmLimitTimer = none ∧ (u.port p).senseRetryTimer = none ∧ (u.port p).faultPollTimer = none
        ∧ (u.port p).absentProbeTimer = none ∧ (u.port p).gapTimer = none
        ∧ (u.port p).identity = (s.port p).identity ∧ (u.port p).tagCounter = (s.port p).tagCounter
        ∧ (u.port p).sheetsFed = (s.port p).sheetsFed ∧ (u.port p).sheetsGood = (s.port p).sheetsGood
        ∧ (u.port p).underruns = (s.port p).underruns ∧ (u.port p).strays = (s.port p).strays
        ∧ ((s.port p).runOpen = true → (u.port p).inFlight = [] ∧ (u.port p).buffer = []
            ∧ (u.port p).pendingDemand = false ∧ (u.port p).executing = false
            ∧ (u.port p).sheetsSpoiled = (s.port p).sheetsSpoiled + BitVec.ofNat 32 (s.port p).inFlight.length)
        ∧ (∀ j x, s.claim p = some j → s.live j = some x → (∀ q, s.claim q = some j → q = p) → s.OutOfRun u j)
        ∧ ((∀ j x, s.claim p = some j → s.live j = some x → x.GoesOn) →
            u.binder = { s.binder with claims := tset s.binder.claims p none } ∧ u.jobs.ended = s.jobs.ended
            ∧ ∀ k x, s.slot k = some x → ∃ c, (c = true → x.creditStopped = true) ∧ u.slot k = some
                (if s.claim p = some k then { x with phase := .queued, feed := s.rewindsTo x, creditStopped := c }
                  else { x with creditStopped := c }))
        ∧ (∀ l, u.lock l = match s.lock l with
            | .job k q => if s.claim p = some k then .free else .job k q
            | h => h)
        ∧ (∀ q, q ≠ p → u.port q = s.port q) ∧ u.claim p = none ∧ u.alerts = s.alerts ∧ u.table = s.table
        ∧ u.control = s.control ∧ u.pressOut = s.pressOut ++ [(p, .probe)])

/-! ## Accounts and the meter -/

/-- ACCOUNT WRITE (R133, R134, R135, R145), ACCOUNT CREDIT (R146) and ACCOUNT SET BALANCE (R147): the write is IN-USE
when the unlimited flag would change with sheets in flight, and otherwise writes its four fields, arms and makes the
low check and clears the credit-stopped flags of the account's live jobs; a credit saturates (CLAMPED); a balance is
not set below what is reserved (CLAMPED). That every ACCOUNT WRITE counts as a write of the scale is the model's
reading (log 30). -/
def Obligations.AccountsWritten : Prop :=
  ∀ (s : State) (f : Frame) (acc st un sc n3 n2 n1 n0 : Byte) (a : Account), acc.toNat = a.val →
    let n := ((n3.toNat * 256 + n2.toNat) * 256 + n1.toNat) * 256 + n0.toNat
    let r := s.account a
    (s.Asks f [26, acc, st, un, sc, n3, n2, n1, n0] → st.toNat ≤ 1 →
      (r.unlimited ≠ decide (un ≠ 0) → 0 < r.inFlight → Refused .accountWrite 26 s f .inUse)
      ∧ (r.unlimited = decide (un ≠ 0) ∨ r.inFlight = 0 → Leads .accountWrite s fun u =>
          let low := decide (un = 0) && decide (r.balance - r.reserved < n)
          u.link = s.link.answered (controlReply f .done 26 [])
          ∧ u.account a = { r with
              isOpen := decide (st ≠ 0), unlimited := decide (un ≠ 0), scale := sc.toNat, lowThreshold := n,
              lowArmed := !low }
          ∧ (∀ k, k ≠ a → u.account k = s.account k) ∧ u.meter.rates = s.meter.rates
          ∧ u.notices = (if low then (s.recordLow a).notices else s.notices) ∧ u.jobs.ended = s.jobs.ended
          ∧ (∀ j, u.slot j = (s.slot j).map fun x =>
              if x.outcome = none ∧ x.account = a then { x with creditStopped := false } else x)
          ∧ u.ports = s.ports ∧ u.binder = s.binder))
    ∧ (s.Asks f [27, acc, n3, n2, n1, n0] → Leads .accountCredit s fun u =>
        u.link = s.link.answered
          (controlReply f (if 4294967295 < r.balance + n then .clamped else .done) 27 [])
        ∧ s.Rebalances u a (min 4294967295 (r.balance + n)) ∧ u.ports = s.ports ∧ u.binder = s.binder)
    ∧ (s.Asks f [28, acc, n3, n2, n1, n0] → Leads .accountSetBalance s fun u =>
        u.link = s.link.answered (controlReply f (if n < r.reserved then .clamped else .done) 28 [])
        ∧ s.Rebalances u a (max r.reserved n) ∧ u.ports = s.ports ∧ u.binder = s.binder)

/-- The cost of a sheet (R136): its side units times the account's scale, in 128ths, rounded up to a whole unit. -/
def Obligations.SheetCost : Prop :=
  ∀ (rate : Rate) (scale : Nat) (st : SheetStart), rate.mono ≤ 4095 → rate.colour ≤ 4095 → scale ≤ 255 →
    let units (m : SideMode) : Nat := match m with
      | .blank => 0
      | .mono => rate.mono
      | .color => rate.colour
    let u := units st.side1 + units st.side2
    let p := u * scale
    let cost := sheetCost rate scale st
    cost = p / 128 + (if p % 128 = 0 then 0 else 1) ∧ u ≤ 8190 ∧ p ≤ 2088450 ∧ cost ≤ 16317
    ∧ (scale = 0 → cost = 0) ∧ (st.side1 = .blank → st.side2 = .blank → cost = 0) ∧ (scale = 128 → cost = u)
    ∧ (p ≠ 0 → 1 ≤ cost) ∧ (u = 8190 → scale = 255 → cost = 16317)

/-- What the meter does with a sheet's cost: a reservation is granted to an OPEN account that is unlimited or has the
credit (R138); a granted one raises reserved and in-flight sheets and, above 0, makes the low check; a charge turns it
into a fall of the balance, and counts it (R141); a release returns it, and a return above 0 makes the low check and
clears the credit-stopped flags (R142, R143); the low check records LOW once until the credit has returned (R144). LOW
and STOP join what is already recorded for their account, and nothing else (R165). -/
def Obligations.MeterMoves : Prop :=
  (∀ (s : State) (a b : Account), s.Stored →
    let e := sget {} b.val s.notices.events
    sget {} b.val (s.recordLow a).notices.events = (if b = a then { e with low := true } else e)
    ∧ sget {} b.val (s.recordStop a).notices.events = (if b = a then { e with stop := true } else e)
    ∧ ∀ u ∈ [s.recordLow a, s.recordStop a],
        u = { s with notices := { s.notices with events := u.notices.events } })
  ∧ ∀ (s : State) (a : Account) (cost : Nat),
    let r := s.account a
    (r.covers cost = true ↔ r.isOpen = true ∧ (r.unlimited = true ∨ cost ≤ r.balance - r.reserved))
    ∧ ((s.reserve a cost).account a = { r with
        inFlight := r.inFlight + 1
        reserved := if r.unlimited then r.reserved else r.reserved + cost
        lowArmed := if r.unlimited = false ∧ 0 < cost ∧ 0 < r.lowThreshold then
            decide (r.lowThreshold ≤ r.balance - (r.reserved + cost)) else r.lowArmed }
      ∧ (s.reserve a cost).notices = (if r.unlimited = false ∧ 0 < cost ∧ 0 < r.lowThreshold ∧ r.lowArmed = true
            ∧ r.balance - (r.reserved + cost) < r.lowThreshold then (s.recordLow a).notices else s.notices)
      ∧ (∀ b, b ≠ a → (s.reserve a cost).account b = s.account b) ∧ (s.reserve a cost).jobs = s.jobs)
    ∧ (∀ e j, s.slot e.job = some j → j.account = a →
        (s.charge e).account a = { r with
          balance := if e.costReserved then r.balance - e.cost else r.balance
          reserved := if e.costReserved then r.reserved - e.cost else r.reserved
          inFlight := r.inFlight - 1
          chargedTotal := min 4294967295 (r.chargedTotal + e.cost)
          periodSheets := min 4294967295 (r.periodSheets + 1)
          periodUnits := min 4294967295 (r.periodUnits + e.cost) }
        ∧ (s.charge e).slot e.job = some { j with charged := min 4294967295 (j.charged + e.cost) }
        ∧ (s.charge e).notices = s.notices)
    ∧ (∀ e j, s.slot e.job = some j → j.account = a →
        (s.releaseReservation e).account a = { r with
          reserved := if e.costReserved then r.reserved - e.cost else r.reserved
          inFlight := r.inFlight - 1
          lowArmed := if e.costReserved = true ∧ 0 < e.cost ∧ r.unlimited = false ∧ 0 < r.lowThreshold then
              decide (r.lowThreshold ≤ r.balance - (r.reserved - e.cost)) else r.lowArmed }
        ∧ (∀ b, b ≠ a → (s.releaseReservation e).account b = s.account b)
        ∧ (s.releaseReservation e).notices = (if e.costReserved = true ∧ 0 < e.cost ∧ r.unlimited = false
              ∧ 0 < r.lowThreshold ∧ r.lowArmed = true ∧ r.balance - (r.reserved - e.cost) < r.lowThreshold then
            (s.recordLow a).notices else s.notices)
        ∧ (∀ k x, s.slot k = some x → x.account ≠ a → (s.releaseReservation e).slot k = some x)
        ∧ (e.costReserved = true → 0 < e.cost → ∀ k x, (s.releaseReservation e).live k = some x → x.account = a →
            x.creditStopped = false)
        ∧ ((e.costReserved = false ∨ e.cost = 0) → (s.releaseReservation e).jobs = s.jobs))
    ∧ (r.unlimited = true ∨ r.lowThreshold = 0 → s.lowCheck a = s)
    ∧ (r.unlimited = false → 0 < r.lowThreshold →
        (s.lowCheck a).account a = { r with lowArmed := decide (r.lowThreshold ≤ r.balance - r.reserved) }
        ∧ (s.lowCheck a).notices = if r.lowArmed = true ∧ r.balance - r.reserved < r.lowThreshold then
            (s.recordLow a).notices else s.notices)

/-! ## Answers of a printer -/

/-- The answers to PROBE (R80, R81, R86, R71): a valid identity replaces the record and brings the port to READY, or
to STANDBY when the printer rests, with a condition clear reported, the queue left with the jobs it covers and the
others at the front of the unbound list in run-queue order, a re-examination following; a REFUSE, or an identity
result taken as one, brings it to ABSENT with its queue displaced (R70). A result that belongs to no PROBE is a stray
report. That the rest depth stays on entering READY, and the timers of PROBING stop, is the model's reading (logs 20
and 25). -/
def Obligations.ProbeAnswered : Prop :=
  (∀ (r : IdentityBytes) (i : Identity) (resting : Bool), decodeIdentity r = some (i, resting) ↔
    1 ≤ r.pathDepth.toNat ∧ r.pathDepth.toNat ≤ 4 ∧ r.media ≠ 0
      ∧ i = ⟨r.engineCode, r.capability.getLsbD 0, r.capability.getLsbD 1, r.media, r.pathDepth.toNat,
          r.capability.getLsbD 2⟩
      ∧ resting = r.capability.getLsbD 3)
  ∧ ∀ (s : State) (p : Port) (r : IdentityBytes),
    ((s.port p).outstanding ≠ some .probe → exec (.identityResult p r) s = .next
      { s with ports := tset s.ports p { s.port p with strays := (s.port p).strays + 1 } })
    ∧ ((s.port p).outstanding = some .probe →
      (∀ i resting, decodeIdentity r = some (i, resting) → Leads (.identityResult p r) s fun u =>
        s.OnlyPort u p { (s.port p).free.enters (if resting then .standby else .ready) with
          identity := some i, restDepth := if resting then none else (s.port p).restDepth }
        ∧ s.OnlyAlert u p (s.alert p).afterClear
        ∧ (∀ j ∈ s.queue p, ∀ x, s.slot j = some x → (j ∈ u.queue p ↔ identityFits i (s.entry p) x = true))
        ∧ s.Displaces u ((s.queue p).filter fun j => (s.slot j).any fun x => !identityFits i (s.entry p) x)
        ∧ u.link = s.link ∧ u.meter = s.meter ∧ u.locks = s.locks ∧ u.binder.claims = s.binder.claims
        ∧ u.pressOut = s.pressOut)
      ∧ (decodeIdentity r = none → ∀ c ∈ [Instr.identityResult p r, Instr.refuse p], Leads c s fun u =>
          s.OnlyPort u p { (s.port p).free.enters .absent with
            absentProbeTimer := some (s.control.settings.absentProbe * 1000) }
          ∧ u.alerts = s.alerts ∧ s.LosesQueue u p ∧ u.link = s.link ∧ u.meter = s.meter))

/-- The answers to SENSE, WARM and REST (R79, R80, R88, R89, R90, R92): each ends its command, and acts by the state
the port stands in, in any other state having no further effect (R79); an answer that belongs to no such command is a
stray report. In WAKING a sense result of not ready is judged by its condition (R90, R152). That resting yes with a
condition other than NONE is no exception to this, that a port that left its state and came back counts as standing in
it, to which command an answer belongs, and which timers stop, is the model's reading (logs 17 to 20). -/
def Obligations.SenseWarmRestAnswered : Prop :=
  ((List.range 9).map senseCondition = [.noCondition, .jamFeed, .jamPath, .jamExit, .mediaOut, .coverOpen, .engineFault,
      .engineFault, .finisherFault]
    ∧ (∀ k, 9 ≤ k → senseCondition k = .engineFault)
    ∧ [Condition.noCondition, .jamFeed, .jamPath, .jamExit, .mediaOut, .coverOpen, .underrun, .halted, .finisherFault,
        .engineFault].map Condition.alert
      = [none, some (.jam, some .feed), some (.jam, some .path), some (.jam, some .exit), some (.mediaOut, none),
        some (.coverOpen, none), none, none, some (.finisherFault, none), some (.engineFault, none)])
  ∧ ∀ (s : State) (p : Port) (x : SenseBytes),
    let r := s.port p
    let c := senseCondition x.condition.toNat
    (r.outstanding ≠ some .sense → exec (.senseResult p x) s = .next
      { s with ports := tset s.ports p { r with strays := r.strays + 1 } })
    ∧ (r.outstanding = none ∨ r.outstanding = some .probe ∨ r.outstanding = some .sense → exec (.taken p) s = .next
      { s with ports := tset s.ports p { r with strays := r.strays + 1 } })
    ∧ (r.outstanding = none → exec (.refuse p) s = .next
      { s with ports := tset s.ports p { r with strays := r.strays + 1 } })
    ∧ (r.outstanding = some .sense →
      (r.state = .waking ∨ r.state = .faulted → x.ready ≠ 0 → exec (.senseResult p x) s = .next (State.closing s { s with
          ports := tset s.ports p { r.free.enters .ready with restDepth := none }
          alerts := tset s.alerts p (s.alert p).afterClear }))
      ∧ (r.state = .waking → x.ready = 0 → c = .noCondition → exec (.senseResult p x) s = .next (State.closing s { s with
          ports := tset s.ports p { r.free with senseRetryTimer := some 1000 } }))
      ∧ (∀ k l, r.state = .waking → x.ready = 0 → c.alert = some (k, l) →
          exec (.senseResult p x) s = .next (State.closing s { s with
            ports := tset s.ports p { r.free.enters .faulted with
              faultPollTimer := some (s.control.settings.faultPoll * 1000) }
            alerts := tset s.alerts p (s.raisedOn p k l none) }))
      ∧ (r.state = .faulted → x.ready = 0 → x.resting ≠ 0 → c = .noCondition →
          exec (.senseResult p x) s = .next (State.closing s { s with
            ports := tset s.ports p { r.free.enters .standby with restDepth := none }
            alerts := tset s.alerts p (s.alert p).afterClear }))
      ∧ (r.state = .faulted → x.ready = 0 → (x.resting = 0 ∨ c ≠ .noCondition) →
          exec (.senseResult p x) s = .next (State.closing s { s with
            ports := tset s.ports p r.free
            alerts := match c.alert with
              | some (k, l) => if (s.alert p).kind = some k ∧ (s.alert p).location = l then s.alerts
                  else tset s.alerts p (s.raisedOn p k l none)
              | none => s.alerts }))
      ∧ (r.state ≠ .waking → r.state ≠ .faulted →
          exec (.senseResult p x) s = .next (State.closing s { s with ports := tset s.ports p r.free }))
      ∧ (r.state = .waking → exec (.refuse p) s = .next (State.closing s { s with
          ports := tset s.ports p { r.free with senseRetryTimer := some 1000 } }))
      ∧ (r.state ≠ .waking →
          exec (.refuse p) s = .next (State.closing s { s with ports := tset s.ports p r.free })))
    ∧ (r.outstanding = some .warm →
      (r.state = .waking → exec (.taken p) s = .next (State.closing s { s with
          ports := tset s.ports p { r.free with warmTimer := some r.warmInterval } }))
      ∧ (r.state = .waking → exec (.refuse p) s = .next (State.closing s { s with
          ports := tset s.ports p { r.free.enters .faulted with
            faultPollTimer := some (s.control.settings.faultPoll * 1000) }
          alerts := tset s.alerts p (s.raisedOn p .warmFail none none) }))
      ∧ (r.state ≠ .waking → ∀ i ∈ [Instr.taken p, Instr.refuse p],
          exec i s = .next (State.closing s { s with ports := tset s.ports p r.free })))
    ∧ (r.outstanding = some .rest →
      (r.state = .ready → exec (.taken p) s = .next (State.closing s { s with
          ports := tset s.ports p { r.free.enters .standby with restDepth := some r.restSent }
          alerts := tset s.alerts p (s.alert p).afterClear }))
      ∧ (r.state ≠ .ready →
          exec (.taken p) s = .next (State.closing s { s with ports := tset s.ports p r.free }))
      ∧ exec (.refuse p) s = .next (State.closing s { s with ports := tset s.ports p r.free }))

/-! ## Runs -/

/-- A feed attempt (R103, R104, R140). A port may feed when it stands in RUNNING in execution, END has not been sent,
its in-flight list is shorter than the path depth, its gap timer is stopped and the feed cursor of its claimed job
stands on a sheet; otherwise nothing is fed. When the account cannot cover the sheet, STOP is recorded, the job is
credit-stopped and the port sends END; otherwise the cost is reserved, the sheet is fed with its tag, its header and
its in-flight entry (R106), and the feed cursor moves on by R18; END follows at once when it reaches the end position.
The list never grows past the path depth. A port that may still feed does so at this event, up to four sheets, or at a
later one, as a free value says (log 8). END is also sent when the list is empty and the cursor stands on no sheet. -/
def Obligations.FeedAttempted : Prop :=
  (∀ (s : State) (p : Port),
    (s.attemptFeed p = State.feedAttempt p 4 s ∧ State.feedAttempt p 0 s = s)
    ∧ (s.mayFeed p = true ↔ (s.port p).state = .running ∧ (s.port p).executing = true ∧ (s.port p).endSent = false
      ∧ (s.port p).inFlight.length < (match (s.port p).identity with | some i => i.pathDepth | none => 0)
      ∧ (s.port p).gapTimer = none
      ∧ ∃ j r, s.claim p = some j ∧ s.live j = some r ∧ r.feed.next ≠ none)
    ∧ (s.mayFeed p = false → ∀ k, State.feedAttempt p k s = s)
    ∧ ∀ k j r b st, s.mayFeed p = true → s.claim p = some j → s.slot j = some r → r.feed.next = some b →
      (s.blockLink b).sheet = some st →
      let cost := sheetCost (tget s.meter.rates st.media) (s.account r.account).scale st
      let u := State.feedAttempt p (k + 1) s
      ((s.account r.account).covers cost = false →
        u.notices = (s.recordStop r.account).notices ∧ u.slot j = some { r with creditStopped := true }
        ∧ u.meter = s.meter ∧ (u.port p).inFlight = (s.port p).inFlight
        ∧ (u.port p).state = .ending ∧ (u.port p).endSent = true ∧ u.pressOut = s.pressOut ++ [(p, .endRun)])
      ∧ ((s.account r.account).covers cost = true →
        (∃ more msgs, (u.port p).inFlight = (s.port p).inFlight
              ++ newEntry (s.port p).tagCounter j r b cost (!(s.account r.account).unlimited) :: more
          ∧ (u.port p).inFlight.length ≤ (s.port p).depth
          ∧ (u.port p).sheetsFed = (s.port p).sheetsFed + 1 + BitVec.ofNat 32 more.length
          ∧ (u.port p).tagCounter = (s.port p).tagCounter + 1 + BitVec.ofNat 8 more.length
          ∧ u.pressOut = s.pressOut ++ (p, .sheet ⟨(s.port p).tagCounter, st.media, st.side1, st.side2, r.finishing,
              decide (r.intake = .complete ∧ st.number = r.received), st.count⟩) :: msgs)
        ∧ ∀ c n, r.feed.pos = .at c n →
          let next : Cursor :=
            if n < r.received then ⟨.at c (n + 1), s.findSheet r (n + 1)⟩
            else if r.intake = .receiving then ⟨.at c (n + 1), none⟩
            else if r.intake = .complete ∧ c < r.copies then ⟨.at (c + 1) 1, r.head⟩
            else ⟨.endPos, none⟩
          let fed : State := { s with
            meter := (s.reserve r.account cost).meter
            notices := (s.reserve r.account cost).notices
            jobs := { s.jobs with recs := tset s.jobs.recs j (some { r with feed := next }) }
            ports := tset s.ports p { s.port p with
              inFlight := (s.port p).inFlight
                ++ [⟨(s.port p).tagCounter, j, c, n, b, 0, cost, !(s.account r.account).unlimited, false, none, none⟩]
              tagCounter := (s.port p).tagCounter + 1
              sheetsFed := (s.port p).sheetsFed + 1 }
            pressOut := s.pressOut ++ [(p, .sheet ⟨(s.port p).tagCounter, st.media, st.side1, st.side2, r.finishing,
              decide (r.intake = .complete ∧ st.number = r.received), st.count⟩)] }
          (next.pos = .endPos → u = fed.sendsEnd p)
          ∧ (next.pos ≠ .endPos → fed.mayFeed p = false → u = fed)
          ∧ (next.pos ≠ .endPos → fed.mayFeed p = true → ∃ v : State, v = { fed with freeTick := fed.freeTick + 1 }
              ∧ (u = v ∨ u = State.feedAttempt p k v))))
  ∧ ∀ (s : State) (p : Port),
    let r := s.port p
    let dry : Prop := r.state = .running ∧ r.executing = true ∧ r.endSent = false ∧ r.inFlight = []
      ∧ ∃ j x, s.claim p = some j ∧ s.live j = some x ∧ x.feed.next = none
    (dry → s.endIfDry p = s.sendsEnd p) ∧ (¬ dry → s.endIfDry p = s)

/-- The answers to RUN, and DEMAND and FEED (R91, R102, R110, R111): TAKEN begins execution, with END at once for a
held or cancelled job, a port with offline pending or a cursor that stands on no sheet (R104), and else a feed
attempt; REFUSE faults the port, which keeps its claim, or takes it OFFLINE with its queue displaced (R70), and the
claimed job ends when it is cancelled or done (R8); a DEMAND is served with the front block when it belongs to an
entry in flight, or waits while some entry has blocks not sent, or is a stray report; a FEED picks its entry and every
older one and starts the gap. That an answer during execution is a stray report is the model's reading (log 17); that
the held flag counts as it stands at TAKEN, and not as it stood while the answer was outstanding, is the model's
choice (log 35). -/
def Obligations.RunReports : Prop :=
  ∀ (s : State) (p : Port),
    let r := s.port p
    (r.outstanding = some .run → r.executing = false →
      (∀ j x, r.state = .running → s.claim p = some j → s.live j = some x →
        ((x.held = true ∨ x.cancel ≠ none ∨ r.offlinePending = true ∨ (x.feed.next = none ∧ r.inFlight = [])) →
          r.endSent = false → exec (.taken p) s = .next (State.closing s { s with
            ports := tset s.ports p { r with
              executing := true, answerTimer := none, state := .ending, endSent := true,
              endTimer := some (r.endTimer.getD 30000) }
            pressOut := s.pressOut ++ [(p, .endRun)] }))
        ∧ (x.held = false → x.cancel = none → r.offlinePending = false → x.feed.next ≠ none →
          exec (.taken p) s = .next (State.closing s (State.attemptFeed { s with
            ports := tset s.ports p { r with executing := true, answerTimer := none } } p))))
      ∧ Leads (.refuse p) s fun u => (u.port p).state = (if r.offlinePending then .offline else .faulted)
          ∧ (u.port p).runOpen = false ∧ (u.port p).executing = false ∧ (u.port p).outstanding = none
          ∧ (u.port p).inFlight = [] ∧ (u.port p).buffer = [] ∧ (∀ q, q ≠ p → u.port q = s.port q)
          ∧ s.OnlyAlert u p (s.raisedOn p .engineFault none none)
          ∧ (r.offlinePending = true → s.LosesQueue u p)
          ∧ (r.offlinePending = false → ∀ j x, s.claim p = some j → s.live j = some x →
              ((∀ q, s.claim q = some j → q = p) → s.OutOfRun u j)
              ∧ (x.GoesOn → u.binder = s.binder
                  ∧ ∃ c, (c = true → x.creditStopped = true) ∧ u.slot j = some { x with creditStopped := c })))
    ∧ (r.outstanding = some .run → r.executing = true → ∀ c ∈ [Instr.taken p, Instr.refuse p],
        exec c s = .next { s with ports := tset s.ports p { r with strays := r.strays + 1 } })
    ∧ (∀ h hs, r.executing = true → r.buffer = h :: hs → (∃ e ∈ r.inFlight, e.tag = h.owner) →
        exec (.demand p) s = .next (State.closing s { s with
          ports := tset s.ports p { r with
            buffer := hs
            inFlight := r.inFlight.map fun e => if e.tag = h.owner then { e with sent := e.sent + 1 } else e }
          pressOut := s.pressOut ++ [(p, .block h.bytes)] }))
    ∧ (r.executing = true → (∀ h hs, r.buffer = h :: hs → ∀ e ∈ r.inFlight, e.tag ≠ h.owner) →
        r.pendingDemand = false → (∃ e ∈ r.inFlight, e.sent < s.sheetCount e.first) →
        exec (.demand p) s = .next (State.closing s { s with
          ports := tset s.ports p { r with pendingDemand := true } }))
    ∧ ((r.executing = false ∨ ((∀ h hs, r.buffer = h :: hs → ∀ e ∈ r.inFlight, e.tag ≠ h.owner)
          ∧ (r.pendingDemand = true ∨ ∀ e ∈ r.inFlight, s.sheetCount e.first ≤ e.sent))) →
        exec (.demand p) s = .next { s with ports := tset s.ports p { r with strays := r.strays + 1 } })
    ∧ (∀ older e newer, r.executing = true → r.inFlight = older ++ e :: newer → e.picked = false →
        (∀ x ∈ older, x.tag ≠ e.tag) →
        let class' := tget s.control.pacing (s.entry p).pacing
        let pick (x : InFlight) : InFlight :=
          if x.picked then x else { x with picked := true, transit := some class'.transitLimit }
        exec (.feed p e.tag) s = .next (State.closing s { s with
          ports := tset s.ports p { r with
            inFlight := older.map pick ++ pick e :: newer
            gapTimer := if class'.interval = 0 then none else some class'.interval } }))
    ∧ ∀ tag, (r.executing = false ∨ ∀ e ∈ r.inFlight, e.tag = tag → e.picked = true) →
        exec (.feed p tag) s = .next { s with ports := tset s.ports p { r with strays := r.strays + 1 } }

/-- EXIT (R113, R114, R115): the entry the tag names is resolved, the entries older than it being spoiled first; then
a feed attempt, and END when the list is empty and no sheet is left to feed. A SPOILED exit, named or older, sends
HALT in RUNNING and nothing in ENDING, and charges nothing. An EXIT that names no entry, or outside execution, is a
stray report. The resolution of one entry: SPOILED releases its reservation and counts the sheet spoiled; GOOD charges
its account, counts the sheet delivered on port and job and passes the confirm cursor that stands on it (R19), which
returns the sheet's blocks to the back of the free pool when the job is release-behind (R21); in both the entry leaves
the list, with the blocks held for it. -/
def Obligations.ExitTaken : Prop :=
  (∀ (s : State) (p : Port) (tag d : Byte),
    let r := s.port p
    ((r.executing = false ∨ ∀ e ∈ r.inFlight, e.tag ≠ tag) →
      exec (.exit p tag d) s = .next { s with ports := tset s.ports p { r with strays := r.strays + 1 } })
    ∧ ∀ older e newer, r.executing = true → r.Counted → r.inFlight = older ++ e :: newer → e.tag = tag →
      let v := older.foldl (fun s x => s.resolveSpoiled p x) s
      let w := if d = 0 then v.resolveGood p e else v.resolveSpoiled p e
      ∃ u : State, exec (.exit p tag d) s = .next (State.closing s ((u.attemptFeed p).endIfDry p))
        ∧ u = { w with ports := u.ports, pressOut := u.pressOut }
        ∧ (u.port p).inFlight = newer ∧ (∀ q, q ≠ p → u.port q = s.port q)
        ∧ (u.port p).sheetsFed = r.sheetsFed
        ∧ (u.port p).sheetsGood = (if d = 0 then r.sheetsGood + 1 else r.sheetsGood)
        ∧ (u.port p).sheetsSpoiled = r.sheetsSpoiled + BitVec.ofNat 32 older.length + (if d = 0 then 0 else 1)
        ∧ (u.port p).goodExits = (if d = 0 then min 65535 (r.goodExits + 1) else r.goodExits)
        ∧ (r.state = .running → r.haltSent = false →
            (if older = [] ∧ d = 0 then (u.port p).state = .running ∧ u.pressOut = s.pressOut
             else (u.port p).state = .ending ∧ (u.port p).haltSent = true ∧ u.pressOut = s.pressOut ++ [(p, .halt)]))
        ∧ (r.state ≠ .running → (u.port p).state = r.state ∧ (u.port p).haltSent = r.haltSent
            ∧ u.pressOut = s.pressOut)
        ∧ (d ≠ 0 → u.spool = s.spool
            ∧ (∀ a, (u.account a).balance = (s.account a).balance
                ∧ (u.account a).chargedTotal = (s.account a).chargedTotal
                ∧ (u.account a).periodSheets = (s.account a).periodSheets
                ∧ (u.account a).periodUnits = (s.account a).periodUnits)
            ∧ ∀ k x, s.slot k = some x → ∃ c, (c = true → x.creditStopped = true)
                ∧ u.slot k = some { x with creditStopped := c })
        ∧ (d = 0 → ∀ x, s.slot e.job = some x →
            u.meter = ((older.foldl State.releaseReservation s).charge e).meter
            ∧ ∃ x', u.slot e.job = some x' ∧ x'.delivered = min 4294967295 (x.delivered + 1)
                ∧ x'.charged = min 4294967295 (x.charged + e.cost) ∧ x'.feed = x.feed
                ∧ (x.confirm ≠ .at e.copy e.sheet → x'.confirm = x.confirm)
                ∧ (x.confirm = .at e.copy e.sheet → x.intake = .complete → e.sheet = x.received →
                    x'.copiesDone = x.copiesDone + 1
                    ∧ x'.confirm = if e.copy < x.copies then .at (e.copy + 1) 1 else .endPos)
                ∧ (x.confirm = .at e.copy e.sheet → ¬ (x.intake = .complete ∧ e.sheet = x.received) →
                    x'.copiesDone = x.copiesDone ∧ x'.confirm = .at e.copy (e.sheet + 1))
                ∧ (x.confirm = .at e.copy e.sheet → x.releaseBehind = true → ∀ b st, x.head = some b →
                    (s.blockLink b).sheet = some st →
                    u.spool = { s.spool with pool := s.spool.pool ++ s.chainFrom st.count b }
                    ∧ x'.head = s.follow b st.count
                    ∧ x'.tail = if s.follow b st.count = none then none else x.tail)
                ∧ (x.confirm ≠ .at e.copy e.sheet ∨ x.releaseBehind = false →
                    u.spool = s.spool ∧ x'.head = x.head ∧ x'.tail = x.tail)))
  ∧ ∀ (s : State) (p : Port) (e : InFlight) (x : Job), s.slot e.job = some x →
    let bad := s.resolveSpoiled p e
    let good := s.resolveGood p e
    (bad = { s.releaseReservation e with ports := bad.ports }
      ∧ s.OnlyPort bad p { (s.port p).resolved e.tag with sheetsSpoiled := (s.port p).sheetsSpoiled + 1 })
    ∧ good = { s with meter := (s.charge e).meter, jobs := good.jobs, spool := good.spool, ports := good.ports }
    ∧ s.OnlyPort good p { (s.port p).resolved e.tag with sheetsGood := (s.port p).sheetsGood + 1 }
    ∧ good.jobs.ended = s.jobs.ended ∧ (∀ k, k ≠ e.job → good.slot k = s.slot k)
    ∧ (let passes : Prop := x.confirm = .at e.copy e.sheet
      let last : Prop := x.intake = .complete ∧ e.sheet = x.received
      let counted : Job := { x with
        delivered := min 4294967295 (x.delivered + 1), charged := min 4294967295 (x.charged + e.cost) }
      (¬ passes → good.slot e.job = some counted ∧ good.spool = s.spool)
      ∧ (passes → ∃ y : Job, y = { counted with confirm := y.confirm, copiesDone := y.copiesDone }
        ∧ (last → y.copiesDone = x.copiesDone + 1
            ∧ y.confirm = if e.copy < x.copies then .at (e.copy + 1) 1 else .endPos)
        ∧ (¬ last → y.copiesDone = x.copiesDone ∧ y.confirm = .at e.copy (e.sheet + 1))
        ∧ (x.releaseBehind = false → good.slot e.job = some y ∧ good.spool = s.spool)
        ∧ ∀ b st, x.releaseBehind = true → x.head = some b → (s.blockLink b).sheet = some st →
            good.spool = { s.spool with pool := s.spool.pool ++ s.chainFrom st.count b }
            ∧ good.slot e.job = some { y with
                head := s.follow b st.count
                tail := if s.follow b st.count = none then none else x.tail }))

/-- RESULT (R84, R91, R116, R117): the printer's good count catches up the oldest entries, each charged, counted
delivered and confirmed as by a GOOD exit (R114), and the rest are spoiled, the data path is closed, the run is no
longer open, an UNDERRUN is counted, the claimed job's feed cursor goes back to its confirm cursor (R20), and the port
enters the state the result names, OFFLINE with its queue empty (R70). The claimed job ends when it is done or
cancelled (R8), and keeps its claim otherwise, unless the port is OFFLINE. The alert record: COUNT-MISMATCH for a good
count below the run's good exits (R156), then the alert of the result's condition at the entry of the last tag, else
at the oldest entry (R152 to R154), then a condition clear where the port enters READY (R157). A RESULT outside
execution is a stray report. That the timers of the state that is left stop is the model's reading (log 20). -/
def Obligations.ResultTaken : Prop :=
  ((List.range 9).map conditionOf = [.noCondition, .jamFeed, .jamPath, .jamExit, .mediaOut, .coverOpen, .underrun, .halted,
      .finisherFault]
    ∧ (∀ k, 9 ≤ k → conditionOf k = .engineFault)
    ∧ (List.range 4).map resultClassOf = [.complete, .failed, .failed, .interrupted]
    ∧ ∀ k, 4 ≤ k → resultClassOf k = .failed)
  ∧ ∀ (s : State) (p : Port) (x : ResultBytes),
    let r := s.port p
    let cls := resultClassOf x.cls.toNat
    let c := conditionOf x.condition.toNat
    let caught := min r.inFlight.length (x.good.toNat - r.goodExits)
    let place : Option (Nat × Nat) :=
      match (if x.lastTagPresent = 0 then none else r.inFlight.find? fun e => decide (e.tag = x.lastTag)) with
      | some e => some (e.copy, e.sheet)
      | none => r.inFlight.head?.map fun e => (e.copy, e.sheet)
    let job := (s.claimedJob p).map fun y => (y.station, y.tag)
    let a1 := if x.good.toNat < r.goodExits then (s.alert p).mismatched job s.control.clock else s.alert p
    let a2 := match (if cls = .complete then none else c.alert) with
      | some (k, l) => a1.raisedAs k l job place s.control.clock
      | none => a1
    (r.executing = false →
      exec (.result p x) s = .next { s with ports := tset s.ports p { r with strays := r.strays + 1 } })
    ∧ (r.executing = true → r.Counted → Leads (.result p x) s fun u =>
        (u.port p).runOpen = false ∧ (u.port p).executing = false ∧ (u.port p).outstanding = none
        ∧ (u.port p).endTimer = none ∧ (u.port p).gapTimer = none ∧ (u.port p).inFlight = []
        ∧ (u.port p).buffer = [] ∧ (u.port p).pendingDemand = false
        ∧ (u.port p).sheetsFed = r.sheetsFed
        ∧ (u.port p).sheetsGood = r.sheetsGood + BitVec.ofNat 32 caught
        ∧ (u.port p).sheetsSpoiled = r.sheetsSpoiled + BitVec.ofNat 32 (r.inFlight.length - caught)
        ∧ (u.port p).underruns = (if c = .underrun then r.underruns + 1 else r.underruns)
        ∧ (u.port p).state = (if r.offlinePending = true then .offline
            else if cls = .complete ∨ c = .noCondition ∨ c = .underrun ∨ c = .halted then .ready else .faulted)
        ∧ (u.port p).faultPollTimer = (if (u.port p).state = .faulted then
            some (s.control.settings.faultPoll * 1000) else none)
        ∧ s.OnlyAlert u p (if (u.port p).state = .ready then a2.afterClear else a2)
        ∧ (∀ j y, s.claim p = some j → u.live j = some y →
            y.feed = match y.confirm with
              | .endPos => ⟨.endPos, none⟩
              | .at k n => if y.intake.reason ≠ none ∧ k = 1 ∧ n = y.received + 1 then ⟨.endPos, none⟩
                  else ⟨.at k n, u.findSheet y n⟩)
        ∧ (let first := r.inFlight.take caught
          let rest := r.inFlight.drop caught
          u.meter = (rest.foldl State.releaseReservation (first.foldl State.charge s)).meter
          ∧ ∀ j z, s.claim p = some j → s.live j = some z → (∀ e ∈ r.inFlight, e.job = j) →
            (∀ q, s.claim q = some j → q = p) →
            s.OutOfRun u j
            ∧ (∀ y, u.live j = some y → u.spool = (first.foldl (fun s e => s.resolveGood p e) s).spool
                ∧ (r.offlinePending = false → u.binder = s.binder))
            ∧ ∀ y, u.slot j = some y →
              y.delivered = first.foldl (fun n _ => min 4294967295 (n + 1)) z.delivered
              ∧ y.charged = first.foldl (fun n e => min 4294967295 (n + e.cost)) z.charged
              ∧ (y.confirm, y.copiesDone) = first.foldl (fun (c : Pos × Nat) e =>
                  if c.1 ≠ .at e.copy e.sheet then c
                  else if z.intake = .complete ∧ e.sheet = z.received then
                    ((if e.copy < z.copies then .at (e.copy + 1) 1 else .endPos), c.2 + 1)
                  else (.at e.copy (e.sheet + 1), c.2)) (z.confirm, z.copiesDone))
        ∧ (r.offlinePending = true → u.queue p = [] ∧ u.claim p = none)
        ∧ (∀ q, q ≠ p → u.port q = s.port q) ∧ u.link = s.link ∧ u.pressOut = s.pressOut)

/-- READY-CHANGE in each state (R87, R90, R91, R92, R157): a stray report in ABSENT, PROBING and OFFLINE; READY brings
a resting, waking or faulted port to READY; a fault condition faults a resting, waking or ready port; during execution
a printer that is not ready ends the feeding. That the timers of the state that is left stop is the model's reading
(log 20). -/
def Obligations.ReadyChanged : Prop :=
  ∀ (s : State) (p : Port) (x y : Byte),
    let r := s.port p
    let c := senseCondition y.toNat
    let goes (u : State) : Prop := exec (.readyChange p x y) s = .next (State.closing s u)
    (r.state = .absent ∨ r.state = .probing ∨ r.state = .offline →
      goes { s with ports := tset s.ports p { r with strays := r.strays + 1 } })
    ∧ (r.state = .standby ∨ r.state = .waking ∨ r.state = .faulted → x ≠ 0 → goes { s with
        ports := tset s.ports p { r.enters .ready with restDepth := none }
        alerts := tset s.alerts p (s.alert p).afterClear })
    ∧ (r.state = .standby ∨ r.state = .waking ∨ r.state = .faulted → x = 0 → c = .noCondition → goes s)
    ∧ (∀ k l, r.state = .standby ∨ r.state = .waking ∨ r.state = .ready → x = 0 → c.alert = some (k, l) → goes { s with
        ports := tset s.ports p { r.enters .faulted with
          faultPollTimer := some (s.control.settings.faultPoll * 1000) }
        alerts := tset s.alerts p (s.raisedOn p k l none) })
    ∧ (r.state = .ready → x = 0 → c = .noCondition → goes { s with
        ports := tset s.ports p { r.enters .faulted with
          faultPollTimer := some (s.control.settings.faultPoll * 1000) }
        alerts := tset s.alerts p (s.raisedOn p .engineFault none none) })
    ∧ (∀ k l, r.state = .faulted → x = 0 → c.alert = some (k, l) → goes { s with
        alerts := if (s.alert p).kind = some k ∧ (s.alert p).location = l then s.alerts
          else tset s.alerts p (s.raisedOn p k l none) })
    ∧ (r.state = .ready → x ≠ 0 → goes s)
    ∧ (r.state = .running → r.executing = true → x = 0 → goes { s with
        ports := tset s.ports p { r with state := .ending, endTimer := some (r.endTimer.getD 30000) } })
    ∧ (r.state = .running → (r.executing = false ∨ x ≠ 0) → goes s)
    ∧ (r.state = .ending → goes s)

/-! ## Timers -/

/-- The timers that send a command, in the state in which they run (R87, R88, R90, R92): REST with the entry's rest
mode, SENSE after the warm interval or the retry interval, SENSE at each fault poll unless a command is outstanding,
PROBE at the absent-probe interval. The standby timer is loaded at the event that makes the port idle (READY, no
claim, no command outstanding, and nothing startable in its queue), with the standby delay unless that is 0, runs on
while the port stays idle, and is stopped at the event that ends the idleness (R88). That it is settled at the end of
the event is the model's reading (log 12). -/
def Obligations.CommandTimers : Prop :=
  ∀ (s : State) (p : Port),
    let r := s.port p
    (r.standbyTimer ≠ none → exec (.standbyTimerExpiry p) s = .next (State.closing s { s with
      ports := tset s.ports p ({ r with standbyTimer := none, restSent := (s.entry p).restMode }.sends .rest)
      pressOut := s.pressOut ++ [(p, .rest (s.entry p).restMode)] }))
    ∧ (r.warmTimer ≠ none → r.state = .waking → exec (.warmTimerExpiry p) s = .next (State.closing s { s with
      ports := tset s.ports p ({ r with warmTimer := none }.sends .sense)
      pressOut := s.pressOut ++ [(p, .sense)] }))
    ∧ (r.senseRetryTimer ≠ none → r.state = .waking →
      exec (.senseRetryTimerExpiry p) s = .next (State.closing s { s with
        ports := tset s.ports p ({ r with senseRetryTimer := none }.sends .sense)
        pressOut := s.pressOut ++ [(p, .sense)] }))
    ∧ (r.faultPollTimer ≠ none → r.state = .faulted →
      let r' := { r with faultPollTimer := some (s.control.settings.faultPoll * 1000) }
      exec (.faultPollTimerExpiry p) s = .next (State.closing s
        (if r.outstanding = none then { s with
            ports := tset s.ports p (r'.sends .sense), pressOut := s.pressOut ++ [(p, .sense)] }
          else { s with ports := tset s.ports p r' })))
    ∧ (r.absentProbeTimer ≠ none → r.state = .absent →
      exec (.absentProbeTimerExpiry p) s = .next (State.closing s { s with
        ports := tset s.ports p ({ r with state := .probing, absentProbeTimer := none }.sends .probe)
        pressOut := s.pressOut ++ [(p, .probe)] }))
    ∧ (s.idle p = true ↔ r.state = .ready ∧ s.claim p = none ∧ r.outstanding = none)
    ∧ ∀ u : State,
      let t := State.closing s u
      (t.idle p = true → t.firstStartable p = none)
      ∧ (t.idle p = true → s.idle p = true → (t.port p).standbyTimer = (u.port p).standbyTimer)
      ∧ (t.idle p = true → s.idle p = false → (t.port p).standbyTimer =
          if (u.entry p).standbyDelay = 0 then none else some ((u.entry p).standbyDelay * 60000))
      ∧ (t.idle p = false → (t.port p).standbyTimer = none)

/-- The timers that find a fault (R80, R84, R86, R93, R90, R112, R105), and the pacing gap (R111): NO-ANSWER takes a
port in PROBING quietly to ABSENT, and any other with an alert and its run abandoned to ABSENT, or OFFLINE where that
is pending, its claimed job rewound or ended (R8, R20) and its queue displaced to the front of the unbound list (R70);
a warm-up past its limit is WARM-FAIL; a late sheet is TRANSIT, with HALT; the end of the gap is a feed attempt. That
the timers of the state that is left stop is the model's reading (log 20). -/
def Obligations.FaultTimers : Prop :=
  ∀ (s : State) (p : Port),
    let r := s.port p
    (∀ c, (c = .answerTimerExpiry p ∧ r.answerTimer ≠ none) ∨ (c = .endTimerExpiry p ∧ r.endTimer ≠ none) →
      (r.state = .probing → Leads c s fun u =>
        s.OnlyPort u p { r.free.enters .absent with
          absentProbeTimer := some (s.control.settings.absentProbe * 1000) }
        ∧ u.alerts = s.alerts ∧ s.LosesQueue u p)
      ∧ (r.state ≠ .probing → Leads c s fun u =>
        (u.port p).state = (if r.offlinePending then .offline else .absent)
        ∧ (u.port p).outstanding = none ∧ (u.port p).answerTimer = none ∧ (u.port p).endTimer = none
        ∧ (r.runOpen = true → (u.port p).runOpen = false ∧ (u.port p).executing = false
            ∧ (u.port p).inFlight = [] ∧ (u.port p).buffer = [] ∧ (u.port p).pendingDemand = false
            ∧ (u.port p).sheetsSpoiled = r.sheetsSpoiled + BitVec.ofNat 32 r.inFlight.length)
        ∧ (u.port p).identity = r.identity ∧ s.LosesQueue u p
        ∧ s.OnlyAlert u p (s.raisedOn p .noAnswer none (r.inFlight.head?.map fun e => (e.copy, e.sheet)))
        ∧ (∀ q, q ≠ p → u.port q = s.port q)))
    ∧ (r.warmLimitTimer ≠ none → r.state = .waking →
      exec (.warmLimitTimerExpiry p) s = .next (State.closing s { s with
        ports := tset s.ports p { r.enters .faulted with
          faultPollTimer := some (s.control.settings.faultPoll * 1000) }
        alerts := tset s.alerts p (s.raisedOn p .warmFail none none) }))
    ∧ (∀ e tag, (r.inFlight.find? fun x => decide (x.tag = tag)) = some e → e.transit ≠ none →
      Leads (.transitTimerExpiry p tag) s fun u =>
        s.OnlyAlert u p (s.raisedOn p .transit none (some (e.copy, e.sheet)))
        ∧ (u.port p).inFlight = r.inFlight.map (fun x => if x.tag = tag then { x with transit := none } else x)
        ∧ (∀ q, q ≠ p → u.port q = s.port q) ∧ u.jobs = s.jobs ∧ u.meter = s.meter ∧ u.binder = s.binder
        ∧ (r.executing = true → r.haltSent = false → (u.port p).state = .ending ∧ (u.port p).haltSent = true
            ∧ u.pressOut = s.pressOut ++ [(p, .halt)])
        ∧ (r.executing = true → r.haltSent = true → (u.port p).state = r.state ∧ u.pressOut = s.pressOut))
    ∧ (r.gapTimer ≠ none → exec (.pacingGapTimerExpiry p) s = .next (State.closing s (State.attemptFeed
        { s with ports := tset s.ports p { r with gapTimer := none } } p)))

/-- The repeat timer makes its record due and stops (R158); the meter period timer folds each account's period into
its report entry, where it has sheets, clears the period counters, and restarts with the period as it stands (R148,
R149). -/
def Obligations.PeriodTimers : Prop :=
  (∀ (s : State) (p : Port), (s.alert p).repeatTimer ≠ none → Settles (.repeatTimerExpiry p) s { s with
    alerts := tset s.alerts p { s.alert p with due := true, repeatTimer := none } })
  ∧ ∀ s : State, s.Stored → s.meter.periodTimer ≠ none →
    ∃ u, Settles .meterPeriodTimerExpiry s u
      ∧ u = { s with meter := u.meter, notices := { s.notices with reports := u.notices.reports } }
      ∧ u.meter.rates = s.meter.rates
      ∧ u.meter.periodTimer = (if s.control.settings.meterPeriod = 0 then none
          else some (s.control.settings.meterPeriod * 60000))
      ∧ ∀ a, u.account a = (if (s.account a).periodSheets = 0 then s.account a
            else { s.account a with periodSheets := 0, periodUnits := 0 })
        ∧ sget {} a.val u.notices.reports = (if (s.account a).periodSheets = 0 then sget {} a.val s.notices.reports
            else
              let e := sget {} a.val s.notices.reports
              ⟨min 4294967295 (e.sheets + (s.account a).periodSheets),
                min 4294967295 (e.units + (s.account a).periodUnits), min 255 (e.periods + 1)⟩)
end

