-- ==== Sys2Proof/Laws/Tables.lean ====
section
/-! SUPPORT. The laws of tables and of canonical sparse lists: a read after a write, and the form every write keeps. -/

namespace Sys2Proof.Machine

@[simp] theorem tget_tset_same {α : Type} {n : Nat} (v : Vector α n) (i : Fin n) (x : α) :
    tget (tset v i x) i = x := by
  simp [tget, tset]

theorem tget_tset_ne {α : Type} {n : Nat} (v : Vector α n) {i k : Fin n} (x : α) (h : k ≠ i) :
    tget (tset v i x) k = tget v k := by
  have h' : i.val ≠ k.val := fun e => h (Fin.ext e.symm)
  simp [tget, tset, h']

theorem tget_tset {α : Type} {n : Nat} (v : Vector α n) (i k : Fin n) (x : α) :
    tget (tset v i x) k = if k = i then x else tget v k := by
  by_cases h : k = i
  · subst h; simp
  · simp [h, tget_tset_ne v x h]

@[simp] theorem tget_tmap {α β : Type} {n : Nat} (f : α → β) (v : Vector α n) (i : Fin n) :
    tget (tmap f v) i = f (tget v i) := by
  simp [tget, tmap]

@[simp] theorem tget_replicate {α : Type} {n : Nat} (x : α) (i : Fin n) : tget (Vector.replicate n x) i = x := by
  simp [tget]

@[simp] theorem tget_ofFn {α : Type} {n : Nat} (f : Fin n → α) (i : Fin n) : tget (Vector.ofFn f) i = f i := by
  simp [tget]

/-- Two tables with equal entries are equal. -/
theorem table_ext {α : Type} {n : Nat} {v w : Vector α n} (h : ∀ i, tget v i = tget w i) : v = w := by
  apply Vector.ext
  intro i hi
  exact h ⟨i, hi⟩

/-- Writing an entry back changes nothing. -/
@[simp] theorem tset_tget {α : Type} {n : Nat} (v : Vector α n) (i : Fin n) : tset v i (tget v i) = v :=
  table_ext fun k => by rw [tget_tset]; split <;> simp_all

/-! ## Canonical sparse lists -/

variable {β : Type}

/-- A key below every listed key reads as the default. -/
theorem sget_below [DecidableEq β] {d : β} {lo k : Nat} {m : List (Nat × β)} (h : swfFrom d lo m = true)
    (hk : k < lo) : sget d k m = d := by
  induction m generalizing lo with
  | nil => rfl
  | cons e rest ih =>
    obtain ⟨k', v⟩ := e
    simp only [swfFrom, Bool.and_eq_true, decide_eq_true_eq] at h
    have : k ≠ k' := by omega
    simp only [sget, this, if_false]
    exact ih h.2 (by omega)

/-- A lower bound may be lowered. -/
theorem swfFrom_mono [DecidableEq β] {d : β} {lo lo' : Nat} {m : List (Nat × β)} (h : swfFrom d lo m = true)
    (hl : lo' ≤ lo) : swfFrom d lo' m = true := by
  cases m with
  | nil => rfl
  | cons e rest =>
    obtain ⟨k', v⟩ := e
    simp only [swfFrom, Bool.and_eq_true, decide_eq_true_eq] at h ⊢
    exact ⟨⟨by omega, h.1.2⟩, h.2⟩

/-- A write keeps the canonical form above a bound at or below its key. -/
theorem swfFrom_sput [DecidableEq β] {d : β} {lo k : Nat} (v : β) {m : List (Nat × β)} (h : swfFrom d lo m = true)
    (hk : lo ≤ k) : swfFrom d lo (sput d k v m) = true := by
  induction m generalizing lo with
  | nil =>
    simp only [sput]
    split
    · rfl
    · simp_all [swfFrom]
  | cons e rest ih =>
    obtain ⟨k', v'⟩ := e
    have h0 := h
    simp only [swfFrom, Bool.and_eq_true, decide_eq_true_eq] at h
    simp only [sput]
    split
    · split
      · exact h0
      · next hlt hv =>
        simp only [swfFrom, Bool.and_eq_true, decide_eq_true_eq]
        exact ⟨⟨hk, hv⟩, ⟨by omega, h.1.2⟩, h.2⟩
    · split
      · next hlt heq =>
        subst heq
        split
        · exact swfFrom_mono h.2 (by omega)
        · next hv =>
          simp only [swfFrom, Bool.and_eq_true, decide_eq_true_eq]
          exact ⟨⟨hk, hv⟩, h.2⟩
      · simp only [swfFrom, Bool.and_eq_true, decide_eq_true_eq]
        exact ⟨h.1, ih h.2 (by omega)⟩

/-- A write keeps the canonical form. -/
theorem swf_sput [DecidableEq β] {d : β} (k : Nat) (v : β) {m : List (Nat × β)} (h : swf d m = true) :
    swf d (sput d k v m) = true :=
  swfFrom_sput v h (Nat.zero_le k)

/-- Dropping the first entry keeps the canonical form. -/
theorem swf_tail [DecidableEq β] {d : β} {m : List (Nat × β)} (h : swf d m = true) : swf d m.tail = true := by
  cases m with
  | nil => rfl
  | cons e rest =>
    obtain ⟨k', v⟩ := e
    simp only [swf, swfFrom, Bool.and_eq_true, decide_eq_true_eq] at h
    exact swfFrom_mono h.2 (Nat.zero_le _)

/-- A read after a write, of a list in canonical form above a bound. -/
theorem sget_sput_from [DecidableEq β] {d : β} {lo : Nat} (k k2 : Nat) (v : β) {m : List (Nat × β)}
    (h : swfFrom d lo m = true) : sget d k2 (sput d k v m) = if k2 = k then v else sget d k2 m := by
  induction m generalizing lo with
  | nil =>
    simp only [sput]
    split <;> split <;> simp_all [sget]
  | cons e rest ih =>
    obtain ⟨k', v'⟩ := e
    simp only [swfFrom, Bool.and_eq_true, decide_eq_true_eq] at h
    simp only [sput]
    split
    · next hlt =>
      split
      · next hv =>
        by_cases e2 : k2 = k
        · subst e2
          have : k2 ≠ k' := by omega
          simp only [sget, this, if_false, if_true]
          rw [hv]; exact sget_below h.2 (by omega)
        · simp [e2]
      · by_cases e2 : k2 = k <;> simp [sget, e2]
    · next hlt =>
      split
      · next heq =>
        subst heq
        split
        · next hv =>
          by_cases e2 : k2 = k
          · subst e2; simp [hv, sget_below h.2]
          · simp [sget, e2]
        · by_cases e2 : k2 = k <;> simp [sget, e2]
      · next hne =>
        simp only [sget]
        rw [ih h.2]
        by_cases e2 : k2 = k'
        · have : k2 ≠ k := by omega
          simp [e2]; omega
        · simp [e2]

/-- A read after a write. -/
theorem sget_sput [DecidableEq β] {d : β} (k k2 : Nat) (v : β) {m : List (Nat × β)} (h : swf d m = true) :
    sget d k2 (sput d k v m) = if k2 = k then v else sget d k2 m :=
  sget_sput_from k k2 v h

/-! ## Folds -/

/-- What every step of a fold keeps, the fold keeps. -/
theorem foldl_keeps {σ α γ : Type} (g : σ → γ) (f : σ → α → σ) (h : ∀ s x, g (f s x) = g s) (l : List α) (s : σ) :
    g (l.foldl f s) = g s := by
  induction l generalizing s with
  | nil => rfl
  | cons x rest ih => rw [List.foldl_cons, ih, h]

/-- What every step of a fold preserves, the fold preserves. -/
theorem foldl_preserves {σ α : Type} (P : σ → Prop) (f : σ → α → σ) (h : ∀ s x, P s → P (f s x)) (l : List α) (s : σ)
    (hs : P s) : P (l.foldl f s) := by
  induction l generalizing s with
  | nil => exact hs
  | cons x rest ih => exact ih _ (h s x hs)

/-- A reflexive and transitive relation that every step of a fold keeps relates the ends of the fold. -/
theorem foldl_relates {σ α : Type} (R : σ → σ → Prop) (refl : ∀ s, R s s) (trans : ∀ a b c, R a b → R b c → R a c)
    (f : σ → α → σ) (h : ∀ s x, R s (f s x)) (l : List α) (s : σ) : R s (l.foldl f s) := by
  induction l generalizing s with
  | nil => exact refl s
  | cons x rest ih => exact trans _ _ _ (h s x) (ih _)

end Sys2Proof.Machine
end

