-- ==== Sys2Proof/Laws/State.lean ====
section
/-! SUPPORT. What each update of State leaves unchanged: one lemma an update, true by unfolding. -/

namespace Sys2Proof.Machine

@[simp] theorem State.modPort_frame (s : State) (p : Port) (f : PortRec → PortRec) :
    (s.modPort p f).link = s.link ∧ (s.modPort p f).intake = s.intake ∧ (s.modPort p f).spool = s.spool ∧
    (s.modPort p f).jobs = s.jobs ∧ (s.modPort p f).binder = s.binder ∧ (s.modPort p f).table = s.table ∧
    (s.modPort p f).locks = s.locks ∧ (s.modPort p f).meter = s.meter ∧ (s.modPort p f).alerts = s.alerts ∧
    (s.modPort p f).notices = s.notices ∧ (s.modPort p f).control = s.control ∧
    (s.modPort p f).pressOut = s.pressOut ∧ (s.modPort p f).freeTick = s.freeTick ∧
    (s.modPort p f).pending = s.pending := by
  simp [State.modPort]

@[simp] theorem State.modJob_frame (s : State) (j : JobSlot) (f : Job → Job) :
    (s.modJob j f).link = s.link ∧ (s.modJob j f).intake = s.intake ∧ (s.modJob j f).spool = s.spool ∧
    (s.modJob j f).jobs.ended = s.jobs.ended ∧ (s.modJob j f).binder = s.binder ∧ (s.modJob j f).ports = s.ports ∧
    (s.modJob j f).table = s.table ∧ (s.modJob j f).locks = s.locks ∧ (s.modJob j f).meter = s.meter ∧
    (s.modJob j f).alerts = s.alerts ∧ (s.modJob j f).notices = s.notices ∧ (s.modJob j f).control = s.control ∧
    (s.modJob j f).pressOut = s.pressOut ∧ (s.modJob j f).freeTick = s.freeTick ∧
    (s.modJob j f).pending = s.pending := by
  simp [State.modJob]

@[simp] theorem State.modAccount_frame (s : State) (a : Account) (f : AccountRec → AccountRec) :
    (s.modAccount a f).link = s.link ∧ (s.modAccount a f).intake = s.intake ∧ (s.modAccount a f).spool = s.spool ∧
    (s.modAccount a f).jobs = s.jobs ∧ (s.modAccount a f).binder = s.binder ∧ (s.modAccount a f).ports = s.ports ∧
    (s.modAccount a f).table = s.table ∧ (s.modAccount a f).locks = s.locks ∧
    (s.modAccount a f).meter.rates = s.meter.rates ∧ (s.modAccount a f).meter.periodTimer = s.meter.periodTimer ∧
    (s.modAccount a f).alerts = s.alerts ∧ (s.modAccount a f).notices = s.notices ∧
    (s.modAccount a f).control = s.control ∧ (s.modAccount a f).pressOut = s.pressOut ∧
    (s.modAccount a f).freeTick = s.freeTick ∧ (s.modAccount a f).pending = s.pending := by
  simp [State.modAccount]

@[simp] theorem State.setClaim_frame (s : State) (p : Port) (c : Option JobSlot) :
    (s.setClaim p c).link = s.link ∧ (s.setClaim p c).intake = s.intake ∧ (s.setClaim p c).spool = s.spool ∧
    (s.setClaim p c).jobs = s.jobs ∧ (s.setClaim p c).binder.routes = s.binder.routes ∧
    (s.setClaim p c).binder.unbound = s.binder.unbound ∧ (s.setClaim p c).binder.queues = s.binder.queues ∧
    (s.setClaim p c).binder.bindOrder = s.binder.bindOrder ∧ (s.setClaim p c).ports = s.ports ∧
    (s.setClaim p c).table = s.table ∧ (s.setClaim p c).locks = s.locks ∧ (s.setClaim p c).meter = s.meter ∧
    (s.setClaim p c).alerts = s.alerts ∧ (s.setClaim p c).notices = s.notices ∧
    (s.setClaim p c).control = s.control ∧ (s.setClaim p c).pressOut = s.pressOut ∧
    (s.setClaim p c).freeTick = s.freeTick ∧ (s.setClaim p c).pending = s.pending := by
  simp [State.setClaim]

@[simp] theorem State.modAlert_frame (s : State) (p : Port) (f : AlertRec → AlertRec) :
    (s.modAlert p f).link = s.link ∧ (s.modAlert p f).intake = s.intake ∧ (s.modAlert p f).spool = s.spool ∧
    (s.modAlert p f).jobs = s.jobs ∧ (s.modAlert p f).binder = s.binder ∧ (s.modAlert p f).ports = s.ports ∧
    (s.modAlert p f).table = s.table ∧ (s.modAlert p f).locks = s.locks ∧ (s.modAlert p f).meter = s.meter ∧
    (s.modAlert p f).notices = s.notices ∧ (s.modAlert p f).control = s.control ∧
    (s.modAlert p f).pressOut = s.pressOut ∧ (s.modAlert p f).freeTick = s.freeTick ∧
    (s.modAlert p f).pending = s.pending := by
  simp [State.modAlert]

@[simp] theorem State.press_frame (s : State) (p : Port) (m : PressMsg) :
    (s.press p m).link = s.link ∧ (s.press p m).intake = s.intake ∧ (s.press p m).spool = s.spool ∧
    (s.press p m).jobs = s.jobs ∧ (s.press p m).binder = s.binder ∧ (s.press p m).ports = s.ports ∧
    (s.press p m).table = s.table ∧ (s.press p m).locks = s.locks ∧ (s.press p m).meter = s.meter ∧
    (s.press p m).alerts = s.alerts ∧ (s.press p m).notices = s.notices ∧ (s.press p m).control = s.control ∧
    (s.press p m).freeTick = s.freeTick ∧ (s.press p m).pending = s.pending := by
  simp [State.press]

@[simp] theorem State.bumpTick_frame (s : State) :
    (s.bumpTick).link = s.link ∧ (s.bumpTick).intake = s.intake ∧ (s.bumpTick).spool = s.spool ∧
    (s.bumpTick).jobs = s.jobs ∧ (s.bumpTick).binder = s.binder ∧ (s.bumpTick).ports = s.ports ∧
    (s.bumpTick).table = s.table ∧ (s.bumpTick).locks = s.locks ∧ (s.bumpTick).meter = s.meter ∧
    (s.bumpTick).alerts = s.alerts ∧ (s.bumpTick).notices = s.notices ∧ (s.bumpTick).control = s.control ∧
    (s.bumpTick).pressOut = s.pressOut ∧ (s.bumpTick).pending = s.pending := by
  simp [State.bumpTick]

@[simp] theorem State.modFlags_frame (s : State) (f : IntakeFlags → IntakeFlags) :
    (s.modFlags f).intake = s.intake ∧ (s.modFlags f).spool = s.spool ∧ (s.modFlags f).jobs = s.jobs ∧
    (s.modFlags f).binder = s.binder ∧ (s.modFlags f).ports = s.ports ∧ (s.modFlags f).table = s.table ∧
    (s.modFlags f).locks = s.locks ∧ (s.modFlags f).meter = s.meter ∧ (s.modFlags f).alerts = s.alerts ∧
    (s.modFlags f).notices = s.notices ∧ (s.modFlags f).control = s.control ∧
    (s.modFlags f).pressOut = s.pressOut ∧ (s.modFlags f).freeTick = s.freeTick ∧
    (s.modFlags f).pending = s.pending := by
  simp [State.modFlags]

@[simp] theorem State.joinIntake_frame (s : State) (f : Frame) :
    (s.joinIntake f).intake = s.intake ∧ (s.joinIntake f).spool = s.spool ∧ (s.joinIntake f).jobs = s.jobs ∧
    (s.joinIntake f).binder = s.binder ∧ (s.joinIntake f).ports = s.ports ∧ (s.joinIntake f).table = s.table ∧
    (s.joinIntake f).locks = s.locks ∧ (s.joinIntake f).meter = s.meter ∧ (s.joinIntake f).alerts = s.alerts ∧
    (s.joinIntake f).notices = s.notices ∧ (s.joinIntake f).control = s.control ∧
    (s.joinIntake f).pressOut = s.pressOut ∧ (s.joinIntake f).freeTick = s.freeTick ∧
    (s.joinIntake f).pending = s.pending := by
  simp [State.joinIntake]

@[simp] theorem State.takeFront_frame (s : State) :
    (s.takeFront).intake = s.intake ∧ (s.takeFront).spool = s.spool ∧ (s.takeFront).jobs = s.jobs ∧
    (s.takeFront).binder = s.binder ∧ (s.takeFront).ports = s.ports ∧ (s.takeFront).table = s.table ∧
    (s.takeFront).locks = s.locks ∧ (s.takeFront).meter = s.meter ∧ (s.takeFront).alerts = s.alerts ∧
    (s.takeFront).notices = s.notices ∧ (s.takeFront).control = s.control ∧ (s.takeFront).pressOut = s.pressOut ∧
    (s.takeFront).freeTick = s.freeTick ∧ (s.takeFront).pending = s.pending := by
  simp [State.takeFront]

@[simp] theorem State.placeReply_frame (s : State) (r : Reply) :
    (s.placeReply r).intake = s.intake ∧ (s.placeReply r).spool = s.spool ∧ (s.placeReply r).jobs = s.jobs ∧
    (s.placeReply r).binder = s.binder ∧ (s.placeReply r).ports = s.ports ∧ (s.placeReply r).table = s.table ∧
    (s.placeReply r).locks = s.locks ∧ (s.placeReply r).meter = s.meter ∧ (s.placeReply r).alerts = s.alerts ∧
    (s.placeReply r).notices = s.notices ∧ (s.placeReply r).control = s.control ∧
    (s.placeReply r).pressOut = s.pressOut ∧ (s.placeReply r).freeTick = s.freeTick ∧
    (s.placeReply r).pending = s.pending := by
  simp [State.placeReply]

@[simp] theorem State.takeControl_frame (s : State) :
    (s.takeControl).intake = s.intake ∧ (s.takeControl).spool = s.spool ∧ (s.takeControl).jobs = s.jobs ∧
    (s.takeControl).binder = s.binder ∧ (s.takeControl).ports = s.ports ∧ (s.takeControl).table = s.table ∧
    (s.takeControl).locks = s.locks ∧ (s.takeControl).meter = s.meter ∧ (s.takeControl).alerts = s.alerts ∧
    (s.takeControl).notices = s.notices ∧ (s.takeControl).control = s.control ∧
    (s.takeControl).pressOut = s.pressOut ∧ (s.takeControl).freeTick = s.freeTick ∧
    (s.takeControl).pending = s.pending := by
  simp [State.takeControl]

@[simp] theorem State.send_frame (s : State) (f : OutFrame) :
    (s.send f).intake = s.intake ∧ (s.send f).spool = s.spool ∧ (s.send f).jobs = s.jobs ∧
    (s.send f).binder = s.binder ∧ (s.send f).ports = s.ports ∧ (s.send f).table = s.table ∧
    (s.send f).locks = s.locks ∧ (s.send f).meter = s.meter ∧ (s.send f).alerts = s.alerts ∧
    (s.send f).notices = s.notices ∧ (s.send f).control = s.control ∧ (s.send f).pressOut = s.pressOut ∧
    (s.send f).freeTick = s.freeTick ∧ (s.send f).pending = s.pending := by
  simp [State.send]

@[simp] theorem State.setBlockLink_frame (s : State) (b : Block) (r : LinkRec) :
    (s.setBlockLink b r).link = s.link ∧ (s.setBlockLink b r).intake = s.intake ∧
    (s.setBlockLink b r).spool.pool = s.spool.pool ∧ (s.setBlockLink b r).spool.mem = s.spool.mem ∧
    (s.setBlockLink b r).spool.granted = s.spool.granted ∧ (s.setBlockLink b r).spool.ranks = s.spool.ranks ∧
    (s.setBlockLink b r).jobs = s.jobs ∧ (s.setBlockLink b r).binder = s.binder ∧
    (s.setBlockLink b r).ports = s.ports ∧ (s.setBlockLink b r).table = s.table ∧
    (s.setBlockLink b r).locks = s.locks ∧ (s.setBlockLink b r).meter = s.meter ∧
    (s.setBlockLink b r).alerts = s.alerts ∧ (s.setBlockLink b r).notices = s.notices ∧
    (s.setBlockLink b r).control = s.control ∧ (s.setBlockLink b r).pressOut = s.pressOut ∧
    (s.setBlockLink b r).freeTick = s.freeTick ∧ (s.setBlockLink b r).pending = s.pending := by
  simp [State.setBlockLink]

@[simp] theorem State.returnBlocks_frame (s : State) (bs : List Block) :
    (s.returnBlocks bs).link = s.link ∧ (s.returnBlocks bs).intake = s.intake ∧
    (s.returnBlocks bs).spool.links = s.spool.links ∧ (s.returnBlocks bs).spool.mem = s.spool.mem ∧
    (s.returnBlocks bs).spool.granted = s.spool.granted ∧ (s.returnBlocks bs).spool.ranks = s.spool.ranks ∧
    (s.returnBlocks bs).jobs = s.jobs ∧ (s.returnBlocks bs).binder = s.binder ∧
    (s.returnBlocks bs).ports = s.ports ∧ (s.returnBlocks bs).table = s.table ∧
    (s.returnBlocks bs).locks = s.locks ∧ (s.returnBlocks bs).meter = s.meter ∧
    (s.returnBlocks bs).alerts = s.alerts ∧ (s.returnBlocks bs).notices = s.notices ∧
    (s.returnBlocks bs).control = s.control ∧ (s.returnBlocks bs).pressOut = s.pressOut ∧
    (s.returnBlocks bs).freeTick = s.freeTick ∧ (s.returnBlocks bs).pending = s.pending := by
  simp [State.returnBlocks]

@[simp] theorem State.modEvents_frame (s : State) (a : Account) (f : AccountEvents → AccountEvents) :
    (s.modEvents a f).link = s.link ∧ (s.modEvents a f).intake = s.intake ∧ (s.modEvents a f).spool = s.spool ∧
    (s.modEvents a f).jobs = s.jobs ∧ (s.modEvents a f).binder = s.binder ∧ (s.modEvents a f).ports = s.ports ∧
    (s.modEvents a f).table = s.table ∧ (s.modEvents a f).locks = s.locks ∧ (s.modEvents a f).meter = s.meter ∧
    (s.modEvents a f).alerts = s.alerts ∧ (s.modEvents a f).notices.mask = s.notices.mask ∧
    (s.modEvents a f).notices.reports = s.notices.reports ∧ (s.modEvents a f).control = s.control ∧
    (s.modEvents a f).pressOut = s.pressOut ∧ (s.modEvents a f).freeTick = s.freeTick ∧
    (s.modEvents a f).pending = s.pending := by
  simp [State.modEvents]

@[simp] theorem State.modQueue_frame (s : State) (p : Port) (f : List JobSlot → List JobSlot) :
    (s.modQueue p f).link = s.link ∧ (s.modQueue p f).intake = s.intake ∧ (s.modQueue p f).spool = s.spool ∧
    (s.modQueue p f).jobs = s.jobs ∧ (s.modQueue p f).binder.routes = s.binder.routes ∧
    (s.modQueue p f).binder.unbound = s.binder.unbound ∧ (s.modQueue p f).binder.bindOrder = s.binder.bindOrder ∧
    (s.modQueue p f).binder.claims = s.binder.claims ∧ (s.modQueue p f).ports = s.ports ∧
    (s.modQueue p f).table = s.table ∧ (s.modQueue p f).locks = s.locks ∧ (s.modQueue p f).meter = s.meter ∧
    (s.modQueue p f).alerts = s.alerts ∧ (s.modQueue p f).notices = s.notices ∧
    (s.modQueue p f).control = s.control ∧ (s.modQueue p f).pressOut = s.pressOut ∧
    (s.modQueue p f).freeTick = s.freeTick ∧ (s.modQueue p f).pending = s.pending := by
  simp [State.modQueue]

@[simp] theorem State.leaveQueues_frame (s : State) (j : JobSlot) :
    (s.leaveQueues j).link = s.link ∧ (s.leaveQueues j).intake = s.intake ∧ (s.leaveQueues j).spool = s.spool ∧
    (s.leaveQueues j).jobs = s.jobs ∧ (s.leaveQueues j).binder.routes = s.binder.routes ∧
    (s.leaveQueues j).binder.unbound = s.binder.unbound ∧ (s.leaveQueues j).binder.claims = s.binder.claims ∧
    (s.leaveQueues j).ports = s.ports ∧ (s.leaveQueues j).table = s.table ∧ (s.leaveQueues j).locks = s.locks ∧
    (s.leaveQueues j).meter = s.meter ∧ (s.leaveQueues j).alerts = s.alerts ∧
    (s.leaveQueues j).notices = s.notices ∧ (s.leaveQueues j).control = s.control ∧
    (s.leaveQueues j).pressOut = s.pressOut ∧ (s.leaveQueues j).freeTick = s.freeTick ∧
    (s.leaveQueues j).pending = s.pending := by
  simp [State.leaveQueues]

@[simp] theorem State.leaveUnbound_frame (s : State) (j : JobSlot) :
    (s.leaveUnbound j).link = s.link ∧ (s.leaveUnbound j).intake = s.intake ∧ (s.leaveUnbound j).spool = s.spool ∧
    (s.leaveUnbound j).jobs = s.jobs ∧ (s.leaveUnbound j).binder.routes = s.binder.routes ∧
    (s.leaveUnbound j).binder.queues = s.binder.queues ∧ (s.leaveUnbound j).binder.bindOrder = s.binder.bindOrder ∧
    (s.leaveUnbound j).binder.claims = s.binder.claims ∧ (s.leaveUnbound j).ports = s.ports ∧
    (s.leaveUnbound j).table = s.table ∧ (s.leaveUnbound j).locks = s.locks ∧ (s.leaveUnbound j).meter = s.meter ∧
    (s.leaveUnbound j).alerts = s.alerts ∧ (s.leaveUnbound j).notices = s.notices ∧
    (s.leaveUnbound j).control = s.control ∧ (s.leaveUnbound j).pressOut = s.pressOut ∧
    (s.leaveUnbound j).freeTick = s.freeTick ∧ (s.leaveUnbound j).pending = s.pending := by
  simp [State.leaveUnbound]

@[simp] theorem State.releaseLocks_frame (s : State) (j : JobSlot) :
    (s.releaseLocks j).link = s.link ∧ (s.releaseLocks j).intake = s.intake ∧ (s.releaseLocks j).spool = s.spool ∧
    (s.releaseLocks j).jobs = s.jobs ∧ (s.releaseLocks j).binder = s.binder ∧ (s.releaseLocks j).ports = s.ports ∧
    (s.releaseLocks j).table = s.table ∧ (s.releaseLocks j).meter = s.meter ∧
    (s.releaseLocks j).alerts = s.alerts ∧ (s.releaseLocks j).notices = s.notices ∧
    (s.releaseLocks j).control = s.control ∧ (s.releaseLocks j).pressOut = s.pressOut ∧
    (s.releaseLocks j).freeTick = s.freeTick ∧ (s.releaseLocks j).pending = s.pending := by
  simp [State.releaseLocks]

@[simp] theorem State.dropClaims_frame (s : State) (j : JobSlot) :
    (s.dropClaims j).link = s.link ∧ (s.dropClaims j).intake = s.intake ∧ (s.dropClaims j).spool = s.spool ∧
    (s.dropClaims j).jobs = s.jobs ∧ (s.dropClaims j).binder.routes = s.binder.routes ∧
    (s.dropClaims j).binder.unbound = s.binder.unbound ∧ (s.dropClaims j).binder.queues = s.binder.queues ∧
    (s.dropClaims j).binder.bindOrder = s.binder.bindOrder ∧ (s.dropClaims j).ports = s.ports ∧
    (s.dropClaims j).table = s.table ∧ (s.dropClaims j).locks = s.locks ∧ (s.dropClaims j).meter = s.meter ∧
    (s.dropClaims j).alerts = s.alerts ∧ (s.dropClaims j).notices = s.notices ∧
    (s.dropClaims j).control = s.control ∧ (s.dropClaims j).pressOut = s.pressOut ∧
    (s.dropClaims j).freeTick = s.freeTick ∧ (s.dropClaims j).pending = s.pending := by
  simp [State.dropClaims]

@[simp] theorem State.clearStops_frame (s : State) (a : Account) :
    (s.clearStops a).link = s.link ∧ (s.clearStops a).intake = s.intake ∧ (s.clearStops a).spool = s.spool ∧
    (s.clearStops a).jobs.ended = s.jobs.ended ∧ (s.clearStops a).binder = s.binder ∧
    (s.clearStops a).ports = s.ports ∧ (s.clearStops a).table = s.table ∧ (s.clearStops a).locks = s.locks ∧
    (s.clearStops a).meter = s.meter ∧ (s.clearStops a).alerts = s.alerts ∧ (s.clearStops a).notices = s.notices ∧
    (s.clearStops a).control = s.control ∧ (s.clearStops a).pressOut = s.pressOut ∧
    (s.clearStops a).freeTick = s.freeTick ∧ (s.clearStops a).pending = s.pending := by
  simp [State.clearStops]

@[simp] theorem State.clearAllStops_frame (s : State) :
    (s.clearAllStops).link = s.link ∧ (s.clearAllStops).intake = s.intake ∧ (s.clearAllStops).spool = s.spool ∧
    (s.clearAllStops).jobs.ended = s.jobs.ended ∧ (s.clearAllStops).binder = s.binder ∧
    (s.clearAllStops).ports = s.ports ∧ (s.clearAllStops).table = s.table ∧ (s.clearAllStops).locks = s.locks ∧
    (s.clearAllStops).meter = s.meter ∧ (s.clearAllStops).alerts = s.alerts ∧
    (s.clearAllStops).notices = s.notices ∧ (s.clearAllStops).control = s.control ∧
    (s.clearAllStops).pressOut = s.pressOut ∧ (s.clearAllStops).freeTick = s.freeTick ∧
    (s.clearAllStops).pending = s.pending := by
  simp [State.clearAllStops]

@[simp] theorem State.leaveIntake_frame (s : State) (j : JobSlot) :
    (s.leaveIntake j).link = s.link ∧ (s.leaveIntake j).spool = s.spool ∧ (s.leaveIntake j).jobs = s.jobs ∧
    (s.leaveIntake j).binder = s.binder ∧ (s.leaveIntake j).ports = s.ports ∧ (s.leaveIntake j).table = s.table ∧
    (s.leaveIntake j).locks = s.locks ∧ (s.leaveIntake j).meter = s.meter ∧ (s.leaveIntake j).alerts = s.alerts ∧
    (s.leaveIntake j).notices = s.notices ∧ (s.leaveIntake j).control = s.control ∧
    (s.leaveIntake j).pressOut = s.pressOut ∧ (s.leaveIntake j).freeTick = s.freeTick ∧
    (s.leaveIntake j).pending = s.pending := by
  simp [State.leaveIntake]

end Sys2Proof.Machine
end

