-- ==== Sys2Proof/Laws/Frames.lean ====
section
/-! SUPPORT. What each shared operation of the spool, meter, alerts, binder and jobs leaves unchanged: one lemma an operation, so
that `simp` reads a part of State through it. -/

namespace Sys2Proof.Machine

@[simp] theorem State.freeFirstSheet_frame (s : State) (j : JobSlot) :
    (s.freeFirstSheet j).link = s.link ∧ (s.freeFirstSheet j).intake = s.intake ∧
    (s.freeFirstSheet j).spool.links = s.spool.links ∧ (s.freeFirstSheet j).spool.mem = s.spool.mem ∧
    (s.freeFirstSheet j).spool.granted = s.spool.granted ∧ (s.freeFirstSheet j).spool.ranks = s.spool.ranks ∧
    (s.freeFirstSheet j).jobs.ended = s.jobs.ended ∧ (s.freeFirstSheet j).binder = s.binder ∧
    (s.freeFirstSheet j).ports = s.ports ∧ (s.freeFirstSheet j).table = s.table ∧
    (s.freeFirstSheet j).locks = s.locks ∧ (s.freeFirstSheet j).meter = s.meter ∧
    (s.freeFirstSheet j).alerts = s.alerts ∧ (s.freeFirstSheet j).notices = s.notices ∧
    (s.freeFirstSheet j).control = s.control ∧ (s.freeFirstSheet j).pressOut = s.pressOut ∧
    (s.freeFirstSheet j).freeTick = s.freeTick ∧ (s.freeFirstSheet j).pending = s.pending := by
  unfold State.freeFirstSheet; dsimp only; (repeat' split) <;> simp

@[simp] theorem State.freeChain_frame (s : State) (j : JobSlot) :
    (s.freeChain j).link = s.link ∧ (s.freeChain j).spool.links = s.spool.links ∧
    (s.freeChain j).spool.mem = s.spool.mem ∧ (s.freeChain j).spool.granted = s.spool.granted ∧
    (s.freeChain j).spool.ranks = s.spool.ranks ∧ (s.freeChain j).jobs.ended = s.jobs.ended ∧
    (s.freeChain j).binder = s.binder ∧ (s.freeChain j).ports = s.ports ∧ (s.freeChain j).table = s.table ∧
    (s.freeChain j).locks = s.locks ∧ (s.freeChain j).meter = s.meter ∧ (s.freeChain j).alerts = s.alerts ∧
    (s.freeChain j).notices = s.notices ∧ (s.freeChain j).control = s.control ∧
    (s.freeChain j).pressOut = s.pressOut ∧ (s.freeChain j).freeTick = s.freeTick ∧
    (s.freeChain j).pending = s.pending := by
  unfold State.freeChain; dsimp only; (repeat' split) <;> simp

@[simp] theorem State.rewind_frame (s : State) (j : JobSlot) :
    (s.rewind j).link = s.link ∧ (s.rewind j).intake = s.intake ∧ (s.rewind j).spool = s.spool ∧
    (s.rewind j).jobs.ended = s.jobs.ended ∧ (s.rewind j).binder = s.binder ∧ (s.rewind j).ports = s.ports ∧
    (s.rewind j).table = s.table ∧ (s.rewind j).locks = s.locks ∧ (s.rewind j).meter = s.meter ∧
    (s.rewind j).alerts = s.alerts ∧ (s.rewind j).notices = s.notices ∧ (s.rewind j).control = s.control ∧
    (s.rewind j).pressOut = s.pressOut ∧ (s.rewind j).freeTick = s.freeTick ∧ (s.rewind j).pending = s.pending := by
  simp [State.rewind]

@[simp] theorem State.closeSheet_frame (s : State) (j : JobSlot) (first : Block) (s1 s2 : SideMode) (m : Media) :
    ((s.closeSheet j first s1 s2 m).1).link = s.link ∧ ((s.closeSheet j first s1 s2 m).1).intake = s.intake ∧
    ((s.closeSheet j first s1 s2 m).1).spool.pool = s.spool.pool ∧
    ((s.closeSheet j first s1 s2 m).1).spool.mem = s.spool.mem ∧
    ((s.closeSheet j first s1 s2 m).1).spool.granted = s.spool.granted ∧
    ((s.closeSheet j first s1 s2 m).1).spool.ranks = s.spool.ranks ∧
    ((s.closeSheet j first s1 s2 m).1).jobs.ended = s.jobs.ended ∧
    ((s.closeSheet j first s1 s2 m).1).binder = s.binder ∧ ((s.closeSheet j first s1 s2 m).1).ports = s.ports ∧
    ((s.closeSheet j first s1 s2 m).1).table = s.table ∧ ((s.closeSheet j first s1 s2 m).1).locks = s.locks ∧
    ((s.closeSheet j first s1 s2 m).1).meter = s.meter ∧ ((s.closeSheet j first s1 s2 m).1).alerts = s.alerts ∧
    ((s.closeSheet j first s1 s2 m).1).notices = s.notices ∧
    ((s.closeSheet j first s1 s2 m).1).control = s.control ∧
    ((s.closeSheet j first s1 s2 m).1).pressOut = s.pressOut ∧
    ((s.closeSheet j first s1 s2 m).1).freeTick = s.freeTick ∧
    ((s.closeSheet j first s1 s2 m).1).pending = s.pending := by
  unfold State.closeSheet; dsimp only; (repeat' split) <;> simp

@[simp] theorem State.recordStop_frame (s : State) (a : Account) :
    (s.recordStop a).link = s.link ∧ (s.recordStop a).intake = s.intake ∧ (s.recordStop a).spool = s.spool ∧
    (s.recordStop a).jobs = s.jobs ∧ (s.recordStop a).binder = s.binder ∧ (s.recordStop a).ports = s.ports ∧
    (s.recordStop a).table = s.table ∧ (s.recordStop a).locks = s.locks ∧ (s.recordStop a).meter = s.meter ∧
    (s.recordStop a).alerts = s.alerts ∧ (s.recordStop a).notices.mask = s.notices.mask ∧
    (s.recordStop a).notices.reports = s.notices.reports ∧ (s.recordStop a).control = s.control ∧
    (s.recordStop a).pressOut = s.pressOut ∧ (s.recordStop a).freeTick = s.freeTick ∧
    (s.recordStop a).pending = s.pending := by
  simp [State.recordStop]

@[simp] theorem State.recordLow_frame (s : State) (a : Account) :
    (s.recordLow a).link = s.link ∧ (s.recordLow a).intake = s.intake ∧ (s.recordLow a).spool = s.spool ∧
    (s.recordLow a).jobs = s.jobs ∧ (s.recordLow a).binder = s.binder ∧ (s.recordLow a).ports = s.ports ∧
    (s.recordLow a).table = s.table ∧ (s.recordLow a).locks = s.locks ∧ (s.recordLow a).meter = s.meter ∧
    (s.recordLow a).alerts = s.alerts ∧ (s.recordLow a).notices.mask = s.notices.mask ∧
    (s.recordLow a).notices.reports = s.notices.reports ∧ (s.recordLow a).control = s.control ∧
    (s.recordLow a).pressOut = s.pressOut ∧ (s.recordLow a).freeTick = s.freeTick ∧
    (s.recordLow a).pending = s.pending := by
  simp [State.recordLow]

@[simp] theorem State.lowCheck_frame (s : State) (a : Account) :
    (s.lowCheck a).link = s.link ∧ (s.lowCheck a).intake = s.intake ∧ (s.lowCheck a).spool = s.spool ∧
    (s.lowCheck a).jobs = s.jobs ∧ (s.lowCheck a).binder = s.binder ∧ (s.lowCheck a).ports = s.ports ∧
    (s.lowCheck a).table = s.table ∧ (s.lowCheck a).locks = s.locks ∧ (s.lowCheck a).meter.rates = s.meter.rates ∧
    (s.lowCheck a).meter.periodTimer = s.meter.periodTimer ∧ (s.lowCheck a).alerts = s.alerts ∧
    (s.lowCheck a).notices.mask = s.notices.mask ∧ (s.lowCheck a).notices.reports = s.notices.reports ∧
    (s.lowCheck a).control = s.control ∧ (s.lowCheck a).pressOut = s.pressOut ∧
    (s.lowCheck a).freeTick = s.freeTick ∧ (s.lowCheck a).pending = s.pending := by
  unfold State.lowCheck; dsimp only; (repeat' split) <;> simp

@[simp] theorem State.reserve_frame (s : State) (a : Account) (cost : Nat) :
    (s.reserve a cost).link = s.link ∧ (s.reserve a cost).intake = s.intake ∧ (s.reserve a cost).spool = s.spool ∧
    (s.reserve a cost).jobs = s.jobs ∧ (s.reserve a cost).binder = s.binder ∧ (s.reserve a cost).ports = s.ports ∧
    (s.reserve a cost).table = s.table ∧ (s.reserve a cost).locks = s.locks ∧
    (s.reserve a cost).meter.rates = s.meter.rates ∧ (s.reserve a cost).meter.periodTimer = s.meter.periodTimer ∧
    (s.reserve a cost).alerts = s.alerts ∧ (s.reserve a cost).notices.mask = s.notices.mask ∧
    (s.reserve a cost).notices.reports = s.notices.reports ∧ (s.reserve a cost).control = s.control ∧
    (s.reserve a cost).pressOut = s.pressOut ∧ (s.reserve a cost).freeTick = s.freeTick ∧
    (s.reserve a cost).pending = s.pending := by
  unfold State.reserve; dsimp only; (repeat' split) <;> simp

@[simp] theorem State.charge_frame (s : State) (e : InFlight) :
    (s.charge e).link = s.link ∧ (s.charge e).intake = s.intake ∧ (s.charge e).spool = s.spool ∧
    (s.charge e).jobs.ended = s.jobs.ended ∧ (s.charge e).binder = s.binder ∧ (s.charge e).ports = s.ports ∧
    (s.charge e).table = s.table ∧ (s.charge e).locks = s.locks ∧ (s.charge e).meter.rates = s.meter.rates ∧
    (s.charge e).meter.periodTimer = s.meter.periodTimer ∧ (s.charge e).alerts = s.alerts ∧
    (s.charge e).notices = s.notices ∧ (s.charge e).control = s.control ∧ (s.charge e).pressOut = s.pressOut ∧
    (s.charge e).freeTick = s.freeTick ∧ (s.charge e).pending = s.pending := by
  unfold State.charge; (repeat' split) <;> simp

@[simp] theorem State.releaseReservation_frame (s : State) (e : InFlight) :
    (s.releaseReservation e).link = s.link ∧ (s.releaseReservation e).intake = s.intake ∧
    (s.releaseReservation e).spool = s.spool ∧ (s.releaseReservation e).jobs.ended = s.jobs.ended ∧
    (s.releaseReservation e).binder = s.binder ∧ (s.releaseReservation e).ports = s.ports ∧
    (s.releaseReservation e).table = s.table ∧ (s.releaseReservation e).locks = s.locks ∧
    (s.releaseReservation e).meter.rates = s.meter.rates ∧
    (s.releaseReservation e).meter.periodTimer = s.meter.periodTimer ∧ (s.releaseReservation e).alerts = s.alerts ∧
    (s.releaseReservation e).notices.mask = s.notices.mask ∧
    (s.releaseReservation e).notices.reports = s.notices.reports ∧ (s.releaseReservation e).control = s.control ∧
    (s.releaseReservation e).pressOut = s.pressOut ∧ (s.releaseReservation e).freeTick = s.freeTick ∧
    (s.releaseReservation e).pending = s.pending := by
  unfold State.releaseReservation; dsimp only; (repeat' split) <;> simp

@[simp] theorem State.raise_frame (s : State) (p : Port) (k : AlertKind) (l : Option JamLocation) (pos : Option (Nat × Nat)) :
    (s.raise p k l pos).link = s.link ∧ (s.raise p k l pos).intake = s.intake ∧
    (s.raise p k l pos).spool = s.spool ∧ (s.raise p k l pos).jobs = s.jobs ∧
    (s.raise p k l pos).binder = s.binder ∧ (s.raise p k l pos).ports = s.ports ∧
    (s.raise p k l pos).table = s.table ∧ (s.raise p k l pos).locks = s.locks ∧
    (s.raise p k l pos).meter = s.meter ∧ (s.raise p k l pos).notices = s.notices ∧
    (s.raise p k l pos).control = s.control ∧ (s.raise p k l pos).pressOut = s.pressOut ∧
    (s.raise p k l pos).freeTick = s.freeTick ∧ (s.raise p k l pos).pending = s.pending := by
  simp [State.raise]

@[simp] theorem State.raiseMismatch_frame (s : State) (p : Port) :
    (s.raiseMismatch p).link = s.link ∧ (s.raiseMismatch p).intake = s.intake ∧
    (s.raiseMismatch p).spool = s.spool ∧ (s.raiseMismatch p).jobs = s.jobs ∧
    (s.raiseMismatch p).binder = s.binder ∧ (s.raiseMismatch p).ports = s.ports ∧
    (s.raiseMismatch p).table = s.table ∧ (s.raiseMismatch p).locks = s.locks ∧
    (s.raiseMismatch p).meter = s.meter ∧ (s.raiseMismatch p).notices = s.notices ∧
    (s.raiseMismatch p).control = s.control ∧ (s.raiseMismatch p).pressOut = s.pressOut ∧
    (s.raiseMismatch p).freeTick = s.freeTick ∧ (s.raiseMismatch p).pending = s.pending := by
  unfold State.raiseMismatch; simp

@[simp] theorem State.reportClear_frame (s : State) (p : Port) :
    (s.reportClear p).link = s.link ∧ (s.reportClear p).intake = s.intake ∧ (s.reportClear p).spool = s.spool ∧
    (s.reportClear p).jobs = s.jobs ∧ (s.reportClear p).binder = s.binder ∧ (s.reportClear p).ports = s.ports ∧
    (s.reportClear p).table = s.table ∧ (s.reportClear p).locks = s.locks ∧ (s.reportClear p).meter = s.meter ∧
    (s.reportClear p).notices = s.notices ∧ (s.reportClear p).control = s.control ∧
    (s.reportClear p).pressOut = s.pressOut ∧ (s.reportClear p).freeTick = s.freeTick ∧
    (s.reportClear p).pending = s.pending := by
  simp [State.reportClear]

@[simp] theorem State.faultReport_frame (s : State) (p : Port) (c : Condition) :
    (s.faultReport p c).link = s.link ∧ (s.faultReport p c).intake = s.intake ∧
    (s.faultReport p c).spool = s.spool ∧ (s.faultReport p c).jobs = s.jobs ∧
    (s.faultReport p c).binder = s.binder ∧ (s.faultReport p c).ports = s.ports ∧
    (s.faultReport p c).table = s.table ∧ (s.faultReport p c).locks = s.locks ∧
    (s.faultReport p c).meter = s.meter ∧ (s.faultReport p c).notices = s.notices ∧
    (s.faultReport p c).control = s.control ∧ (s.faultReport p c).pressOut = s.pressOut ∧
    (s.faultReport p c).freeTick = s.freeTick ∧ (s.faultReport p c).pending = s.pending := by
  unfold State.faultReport; (repeat' split) <;> simp

@[simp] theorem State.bindTo_frame (s : State) (j : JobSlot) (p : Port) :
    (s.bindTo j p).link = s.link ∧ (s.bindTo j p).intake = s.intake ∧ (s.bindTo j p).spool = s.spool ∧
    (s.bindTo j p).jobs.ended = s.jobs.ended ∧ (s.bindTo j p).binder.routes = s.binder.routes ∧
    (s.bindTo j p).binder.unbound = s.binder.unbound ∧ (s.bindTo j p).binder.claims = s.binder.claims ∧
    (s.bindTo j p).ports = s.ports ∧ (s.bindTo j p).table = s.table ∧ (s.bindTo j p).locks = s.locks ∧
    (s.bindTo j p).meter = s.meter ∧ (s.bindTo j p).alerts = s.alerts ∧ (s.bindTo j p).notices = s.notices ∧
    (s.bindTo j p).control = s.control ∧ (s.bindTo j p).pressOut = s.pressOut ∧
    (s.bindTo j p).freeTick = s.freeTick ∧ (s.bindTo j p).pending = s.pending := by
  simp [State.bindTo]

@[simp] theorem State.tryBind_frame (s : State) (j : JobSlot) :
    (s.tryBind j).link = s.link ∧ (s.tryBind j).intake = s.intake ∧ (s.tryBind j).spool = s.spool ∧
    (s.tryBind j).jobs.ended = s.jobs.ended ∧ (s.tryBind j).binder.routes = s.binder.routes ∧
    (s.tryBind j).binder.claims = s.binder.claims ∧ (s.tryBind j).ports = s.ports ∧ (s.tryBind j).table = s.table ∧
    (s.tryBind j).locks = s.locks ∧ (s.tryBind j).meter = s.meter ∧ (s.tryBind j).alerts = s.alerts ∧
    (s.tryBind j).notices = s.notices ∧ (s.tryBind j).control = s.control ∧ (s.tryBind j).pressOut = s.pressOut ∧
    (s.tryBind j).freeTick = s.freeTick ∧ (s.tryBind j).pending = s.pending := by
  unfold State.tryBind; (repeat' split) <;> simp

@[simp] theorem State.reexamine_frame (s : State) :
    (s.reexamine).link = s.link ∧ (s.reexamine).intake = s.intake ∧ (s.reexamine).spool = s.spool ∧
    (s.reexamine).jobs.ended = s.jobs.ended ∧ (s.reexamine).binder.routes = s.binder.routes ∧
    (s.reexamine).binder.claims = s.binder.claims ∧ (s.reexamine).ports = s.ports ∧ (s.reexamine).table = s.table ∧
    (s.reexamine).locks = s.locks ∧ (s.reexamine).meter = s.meter ∧ (s.reexamine).alerts = s.alerts ∧
    (s.reexamine).notices = s.notices ∧ (s.reexamine).control = s.control ∧ (s.reexamine).pressOut = s.pressOut ∧
    (s.reexamine).freeTick = s.freeTick ∧ (s.reexamine).pending = s.pending := by
  exact foldl_relates (fun a b : State =>
      b.link = a.link ∧ b.intake = a.intake ∧ b.spool = a.spool ∧ b.jobs.ended = a.jobs.ended ∧
      b.binder.routes = a.binder.routes ∧ b.binder.claims = a.binder.claims ∧ b.ports = a.ports ∧
      b.table = a.table ∧ b.locks = a.locks ∧ b.meter = a.meter ∧ b.alerts = a.alerts ∧ b.notices = a.notices ∧
      b.control = a.control ∧ b.pressOut = a.pressOut ∧ b.freeTick = a.freeTick ∧ b.pending = a.pending)
    (by simp) (by intro a b c h1 h2; simp_all) State.tryBind (by intro s x; simp) s.binder.unbound s

@[simp] theorem State.markUnbound_frame (s : State) (j : JobSlot) :
    (s.markUnbound j).link = s.link ∧ (s.markUnbound j).intake = s.intake ∧ (s.markUnbound j).spool = s.spool ∧
    (s.markUnbound j).jobs.ended = s.jobs.ended ∧ (s.markUnbound j).binder = s.binder ∧
    (s.markUnbound j).ports = s.ports ∧ (s.markUnbound j).table = s.table ∧ (s.markUnbound j).locks = s.locks ∧
    (s.markUnbound j).meter = s.meter ∧ (s.markUnbound j).alerts = s.alerts ∧
    (s.markUnbound j).notices = s.notices ∧ (s.markUnbound j).control = s.control ∧
    (s.markUnbound j).pressOut = s.pressOut ∧ (s.markUnbound j).freeTick = s.freeTick ∧
    (s.markUnbound j).pending = s.pending := by
  simp [State.markUnbound]

@[simp] theorem leaveAll_frame (js : List JobSlot) (s : State) :
    (js.foldl State.leaveQueues s).link = s.link ∧ (js.foldl State.leaveQueues s).intake = s.intake ∧
    (js.foldl State.leaveQueues s).spool = s.spool ∧ (js.foldl State.leaveQueues s).jobs = s.jobs ∧
    (js.foldl State.leaveQueues s).binder.routes = s.binder.routes ∧
    (js.foldl State.leaveQueues s).binder.unbound = s.binder.unbound ∧
    (js.foldl State.leaveQueues s).binder.claims = s.binder.claims ∧
    (js.foldl State.leaveQueues s).ports = s.ports ∧ (js.foldl State.leaveQueues s).table = s.table ∧
    (js.foldl State.leaveQueues s).locks = s.locks ∧ (js.foldl State.leaveQueues s).meter = s.meter ∧
    (js.foldl State.leaveQueues s).alerts = s.alerts ∧ (js.foldl State.leaveQueues s).notices = s.notices ∧
    (js.foldl State.leaveQueues s).control = s.control ∧ (js.foldl State.leaveQueues s).pressOut = s.pressOut ∧
    (js.foldl State.leaveQueues s).freeTick = s.freeTick ∧ (js.foldl State.leaveQueues s).pending = s.pending := by
  exact foldl_relates (fun a b : State =>
      b.link = a.link ∧ b.intake = a.intake ∧ b.spool = a.spool ∧ b.jobs = a.jobs ∧
      b.binder.routes = a.binder.routes ∧ b.binder.unbound = a.binder.unbound ∧ b.binder.claims = a.binder.claims ∧
      b.ports = a.ports ∧ b.table = a.table ∧ b.locks = a.locks ∧ b.meter = a.meter ∧ b.alerts = a.alerts ∧
      b.notices = a.notices ∧ b.control = a.control ∧ b.pressOut = a.pressOut ∧ b.freeTick = a.freeTick ∧
      b.pending = a.pending)
    (by simp) (by intro a b c h1 h2; simp_all) State.leaveQueues (by intro s x; simp) js s

@[simp] theorem markAll_frame (js : List JobSlot) (s : State) :
    (js.foldl State.markUnbound s).link = s.link ∧ (js.foldl State.markUnbound s).intake = s.intake ∧
    (js.foldl State.markUnbound s).spool = s.spool ∧ (js.foldl State.markUnbound s).jobs.ended = s.jobs.ended ∧
    (js.foldl State.markUnbound s).binder = s.binder ∧ (js.foldl State.markUnbound s).ports = s.ports ∧
    (js.foldl State.markUnbound s).table = s.table ∧ (js.foldl State.markUnbound s).locks = s.locks ∧
    (js.foldl State.markUnbound s).meter = s.meter ∧ (js.foldl State.markUnbound s).alerts = s.alerts ∧
    (js.foldl State.markUnbound s).notices = s.notices ∧ (js.foldl State.markUnbound s).control = s.control ∧
    (js.foldl State.markUnbound s).pressOut = s.pressOut ∧ (js.foldl State.markUnbound s).freeTick = s.freeTick ∧
    (js.foldl State.markUnbound s).pending = s.pending := by
  exact foldl_relates (fun a b : State =>
      b.link = a.link ∧ b.intake = a.intake ∧ b.spool = a.spool ∧ b.jobs.ended = a.jobs.ended ∧
      b.binder = a.binder ∧ b.ports = a.ports ∧ b.table = a.table ∧ b.locks = a.locks ∧ b.meter = a.meter ∧
      b.alerts = a.alerts ∧ b.notices = a.notices ∧ b.control = a.control ∧ b.pressOut = a.pressOut ∧
      b.freeTick = a.freeTick ∧ b.pending = a.pending)
    (by simp) (by intro a b c h1 h2; simp_all) State.markUnbound (by intro s x; simp) js s

@[simp] theorem State.toUnboundFront_frame (s : State) (js : List JobSlot) :
    (s.toUnboundFront js).link = s.link ∧ (s.toUnboundFront js).intake = s.intake ∧
    (s.toUnboundFront js).spool = s.spool ∧ (s.toUnboundFront js).jobs.ended = s.jobs.ended ∧
    (s.toUnboundFront js).binder.routes = s.binder.routes ∧ (s.toUnboundFront js).binder.claims = s.binder.claims ∧
    (s.toUnboundFront js).ports = s.ports ∧ (s.toUnboundFront js).table = s.table ∧
    (s.toUnboundFront js).locks = s.locks ∧ (s.toUnboundFront js).meter = s.meter ∧
    (s.toUnboundFront js).alerts = s.alerts ∧ (s.toUnboundFront js).notices = s.notices ∧
    (s.toUnboundFront js).control = s.control ∧ (s.toUnboundFront js).pressOut = s.pressOut ∧
    (s.toUnboundFront js).freeTick = s.freeTick ∧ (s.toUnboundFront js).pending = s.pending := by
  simp [State.toUnboundFront]

@[simp] theorem State.claimJob_frame (s : State) (p : Port) (j : JobSlot) :
    (s.claimJob p j).link = s.link ∧ (s.claimJob p j).intake = s.intake ∧ (s.claimJob p j).spool = s.spool ∧
    (s.claimJob p j).jobs.ended = s.jobs.ended ∧ (s.claimJob p j).binder.routes = s.binder.routes ∧
    (s.claimJob p j).binder.unbound = s.binder.unbound ∧ (s.claimJob p j).binder.queues = s.binder.queues ∧
    (s.claimJob p j).binder.bindOrder = s.binder.bindOrder ∧ (s.claimJob p j).ports = s.ports ∧
    (s.claimJob p j).table = s.table ∧ (s.claimJob p j).meter = s.meter ∧ (s.claimJob p j).alerts = s.alerts ∧
    (s.claimJob p j).notices = s.notices ∧ (s.claimJob p j).control = s.control ∧
    (s.claimJob p j).pressOut = s.pressOut ∧ (s.claimJob p j).freeTick = s.freeTick ∧
    (s.claimJob p j).pending = s.pending := by
  unfold State.claimJob; dsimp only; (repeat' split) <;> simp

@[simp] theorem State.releaseClaim_frame (s : State) (p : Port) :
    (s.releaseClaim p).link = s.link ∧ (s.releaseClaim p).intake = s.intake ∧ (s.releaseClaim p).spool = s.spool ∧
    (s.releaseClaim p).jobs.ended = s.jobs.ended ∧ (s.releaseClaim p).binder.routes = s.binder.routes ∧
    (s.releaseClaim p).binder.unbound = s.binder.unbound ∧ (s.releaseClaim p).binder.queues = s.binder.queues ∧
    (s.releaseClaim p).binder.bindOrder = s.binder.bindOrder ∧ (s.releaseClaim p).ports = s.ports ∧
    (s.releaseClaim p).table = s.table ∧ (s.releaseClaim p).meter = s.meter ∧
    (s.releaseClaim p).alerts = s.alerts ∧ (s.releaseClaim p).notices = s.notices ∧
    (s.releaseClaim p).control = s.control ∧ (s.releaseClaim p).pressOut = s.pressOut ∧
    (s.releaseClaim p).freeTick = s.freeTick ∧ (s.releaseClaim p).pending = s.pending := by
  unfold State.releaseClaim; (repeat' split) <;> simp

@[simp] theorem State.sendEnd_frame (s : State) (p : Port) :
    (s.sendEnd p).link = s.link ∧ (s.sendEnd p).intake = s.intake ∧ (s.sendEnd p).spool = s.spool ∧
    (s.sendEnd p).jobs = s.jobs ∧ (s.sendEnd p).binder = s.binder ∧ (s.sendEnd p).table = s.table ∧
    (s.sendEnd p).locks = s.locks ∧ (s.sendEnd p).meter = s.meter ∧ (s.sendEnd p).alerts = s.alerts ∧
    (s.sendEnd p).notices = s.notices ∧ (s.sendEnd p).control = s.control ∧ (s.sendEnd p).freeTick = s.freeTick ∧
    (s.sendEnd p).pending = s.pending := by
  unfold State.sendEnd; (repeat' split) <;> simp

@[simp] theorem State.sendHalt_frame (s : State) (p : Port) :
    (s.sendHalt p).link = s.link ∧ (s.sendHalt p).intake = s.intake ∧ (s.sendHalt p).spool = s.spool ∧
    (s.sendHalt p).jobs = s.jobs ∧ (s.sendHalt p).binder = s.binder ∧ (s.sendHalt p).table = s.table ∧
    (s.sendHalt p).locks = s.locks ∧ (s.sendHalt p).meter = s.meter ∧ (s.sendHalt p).alerts = s.alerts ∧
    (s.sendHalt p).notices = s.notices ∧ (s.sendHalt p).control = s.control ∧
    (s.sendHalt p).freeTick = s.freeTick ∧ (s.sendHalt p).pending = s.pending := by
  unfold State.sendHalt; (repeat' split) <;> simp

@[simp] theorem State.stopFeeding_frame (s : State) (j : JobSlot) :
    (s.stopFeeding j).link = s.link ∧ (s.stopFeeding j).intake = s.intake ∧ (s.stopFeeding j).spool = s.spool ∧
    (s.stopFeeding j).jobs = s.jobs ∧ (s.stopFeeding j).binder = s.binder ∧ (s.stopFeeding j).table = s.table ∧
    (s.stopFeeding j).locks = s.locks ∧ (s.stopFeeding j).meter = s.meter ∧ (s.stopFeeding j).alerts = s.alerts ∧
    (s.stopFeeding j).notices = s.notices ∧ (s.stopFeeding j).control = s.control ∧
    (s.stopFeeding j).freeTick = s.freeTick ∧ (s.stopFeeding j).pending = s.pending := by
  unfold State.stopFeeding; (repeat' split) <;> simp

@[simp] theorem State.endJob_frame (s : State) (j : JobSlot) :
    (s.endJob j).link = s.link ∧ (s.endJob j).spool.links = s.spool.links ∧ (s.endJob j).spool.mem = s.spool.mem ∧
    (s.endJob j).spool.granted = s.spool.granted ∧ (s.endJob j).spool.ranks = s.spool.ranks ∧
    (s.endJob j).binder.routes = s.binder.routes ∧ (s.endJob j).ports = s.ports ∧ (s.endJob j).table = s.table ∧
    (s.endJob j).meter = s.meter ∧ (s.endJob j).alerts = s.alerts ∧ (s.endJob j).notices = s.notices ∧
    (s.endJob j).control = s.control ∧ (s.endJob j).pressOut = s.pressOut ∧ (s.endJob j).freeTick = s.freeTick ∧
    (s.endJob j).pending = s.pending := by
  unfold State.endJob; dsimp only; (repeat' split) <;> simp

@[simp] theorem State.tryEnd_frame (s : State) (j : JobSlot) :
    (s.tryEnd j).link = s.link ∧ (s.tryEnd j).spool.links = s.spool.links ∧ (s.tryEnd j).spool.mem = s.spool.mem ∧
    (s.tryEnd j).spool.granted = s.spool.granted ∧ (s.tryEnd j).spool.ranks = s.spool.ranks ∧
    (s.tryEnd j).binder.routes = s.binder.routes ∧ (s.tryEnd j).ports = s.ports ∧ (s.tryEnd j).table = s.table ∧
    (s.tryEnd j).meter = s.meter ∧ (s.tryEnd j).alerts = s.alerts ∧ (s.tryEnd j).notices = s.notices ∧
    (s.tryEnd j).control = s.control ∧ (s.tryEnd j).pressOut = s.pressOut ∧ (s.tryEnd j).freeTick = s.freeTick ∧
    (s.tryEnd j).pending = s.pending := by
  unfold State.tryEnd; (repeat' split) <;> simp

@[simp] theorem State.completeIntake_frame (s : State) (j : JobSlot) :
    (s.completeIntake j).link = s.link ∧ (s.completeIntake j).spool = s.spool ∧
    (s.completeIntake j).jobs.ended = s.jobs.ended ∧ (s.completeIntake j).binder = s.binder ∧
    (s.completeIntake j).ports = s.ports ∧ (s.completeIntake j).table = s.table ∧
    (s.completeIntake j).locks = s.locks ∧ (s.completeIntake j).meter = s.meter ∧
    (s.completeIntake j).alerts = s.alerts ∧ (s.completeIntake j).notices = s.notices ∧
    (s.completeIntake j).control = s.control ∧ (s.completeIntake j).pressOut = s.pressOut ∧
    (s.completeIntake j).freeTick = s.freeTick ∧ (s.completeIntake j).pending = s.pending := by
  simp [State.completeIntake]

@[simp] theorem State.cancelJob_frame (s : State) (j : JobSlot) (why : CancelReason) :
    (s.cancelJob j why).link = s.link ∧ (s.cancelJob j why).spool.links = s.spool.links ∧
    (s.cancelJob j why).spool.mem = s.spool.mem ∧ (s.cancelJob j why).spool.granted = s.spool.granted ∧
    (s.cancelJob j why).spool.ranks = s.spool.ranks ∧ (s.cancelJob j why).binder.routes = s.binder.routes ∧
    (s.cancelJob j why).table = s.table ∧ (s.cancelJob j why).meter = s.meter ∧
    (s.cancelJob j why).alerts = s.alerts ∧ (s.cancelJob j why).notices = s.notices ∧
    (s.cancelJob j why).control = s.control ∧ (s.cancelJob j why).freeTick = s.freeTick ∧
    (s.cancelJob j why).pending = s.pending := by
  unfold State.cancelJob; dsimp only; (repeat' split) <;> simp

@[simp] theorem State.breakJob_frame (s : State) (j : JobSlot) (why : BrokenReason) :
    (s.breakJob j why).link = s.link ∧ (s.breakJob j why).spool.links = s.spool.links ∧
    (s.breakJob j why).spool.mem = s.spool.mem ∧ (s.breakJob j why).spool.granted = s.spool.granted ∧
    (s.breakJob j why).spool.ranks = s.spool.ranks ∧ (s.breakJob j why).binder.routes = s.binder.routes ∧
    (s.breakJob j why).table = s.table ∧ (s.breakJob j why).meter = s.meter ∧
    (s.breakJob j why).alerts = s.alerts ∧ (s.breakJob j why).notices = s.notices ∧
    (s.breakJob j why).control = s.control ∧ (s.breakJob j why).freeTick = s.freeTick ∧
    (s.breakJob j why).pending = s.pending := by
  unfold State.breakJob; dsimp only; (repeat' split) <;> simp

end Sys2Proof.Machine
end

