-- ==== Sys2Proof/Laws/FramesRun.lean ====
section
/-! SUPPORT. What each operation of a run leaves unchanged: one lemma an operation. -/

namespace Sys2Proof.Machine

@[simp] theorem State.sendCommand_frame (s : State) (p : Port) (c : Command) (m : PressMsg) :
    (s.sendCommand p c m).link = s.link ∧ (s.sendCommand p c m).intake = s.intake ∧
    (s.sendCommand p c m).spool = s.spool ∧ (s.sendCommand p c m).jobs = s.jobs ∧
    (s.sendCommand p c m).binder = s.binder ∧ (s.sendCommand p c m).table = s.table ∧
    (s.sendCommand p c m).locks = s.locks ∧ (s.sendCommand p c m).meter = s.meter ∧
    (s.sendCommand p c m).alerts = s.alerts ∧ (s.sendCommand p c m).notices = s.notices ∧
    (s.sendCommand p c m).control = s.control ∧ (s.sendCommand p c m).freeTick = s.freeTick ∧
    (s.sendCommand p c m).pending = s.pending := by
  simp [State.sendCommand]

@[simp] theorem State.stray_frame (s : State) (p : Port) :
    (s.stray p).link = s.link ∧ (s.stray p).intake = s.intake ∧ (s.stray p).spool = s.spool ∧
    (s.stray p).jobs = s.jobs ∧ (s.stray p).binder = s.binder ∧ (s.stray p).table = s.table ∧
    (s.stray p).locks = s.locks ∧ (s.stray p).meter = s.meter ∧ (s.stray p).alerts = s.alerts ∧
    (s.stray p).notices = s.notices ∧ (s.stray p).control = s.control ∧ (s.stray p).pressOut = s.pressOut ∧
    (s.stray p).freeTick = s.freeTick ∧ (s.stray p).pending = s.pending := by
  simp [State.stray]

@[simp] theorem State.startRun_frame (s : State) (p : Port) :
    (s.startRun p).link = s.link ∧ (s.startRun p).intake = s.intake ∧ (s.startRun p).spool = s.spool ∧
    (s.startRun p).jobs = s.jobs ∧ (s.startRun p).binder = s.binder ∧ (s.startRun p).table = s.table ∧
    (s.startRun p).locks = s.locks ∧ (s.startRun p).meter = s.meter ∧ (s.startRun p).alerts = s.alerts ∧
    (s.startRun p).notices = s.notices ∧ (s.startRun p).control = s.control ∧
    (s.startRun p).freeTick = s.freeTick ∧ (s.startRun p).pending = s.pending := by
  simp [State.startRun]

@[simp] theorem State.sendWarm_frame (s : State) (p : Port) :
    (s.sendWarm p).link = s.link ∧ (s.sendWarm p).intake = s.intake ∧ (s.sendWarm p).spool = s.spool ∧
    (s.sendWarm p).jobs = s.jobs ∧ (s.sendWarm p).binder = s.binder ∧ (s.sendWarm p).table = s.table ∧
    (s.sendWarm p).locks = s.locks ∧ (s.sendWarm p).meter = s.meter ∧ (s.sendWarm p).alerts = s.alerts ∧
    (s.sendWarm p).notices = s.notices ∧ (s.sendWarm p).control = s.control ∧
    (s.sendWarm p).freeTick = s.freeTick ∧ (s.sendWarm p).pending = s.pending := by
  unfold State.sendWarm; dsimp only; simp

@[simp] theorem State.afterClaim_frame (s : State) (p : Port) (j : JobSlot) :
    (s.afterClaim p j).link = s.link ∧ (s.afterClaim p j).intake = s.intake ∧ (s.afterClaim p j).spool = s.spool ∧
    (s.afterClaim p j).jobs = s.jobs ∧ (s.afterClaim p j).binder = s.binder ∧ (s.afterClaim p j).table = s.table ∧
    (s.afterClaim p j).locks = s.locks ∧ (s.afterClaim p j).meter = s.meter ∧
    (s.afterClaim p j).alerts = s.alerts ∧ (s.afterClaim p j).notices = s.notices ∧
    (s.afterClaim p j).control = s.control ∧ (s.afterClaim p j).freeTick = s.freeTick ∧
    (s.afterClaim p j).pending = s.pending := by
  unfold State.afterClaim; (repeat' split) <;> simp

@[simp] theorem State.claimAndGo_frame (s : State) (p : Port) (j : JobSlot) :
    (s.claimAndGo p j).link = s.link ∧ (s.claimAndGo p j).intake = s.intake ∧ (s.claimAndGo p j).spool = s.spool ∧
    (s.claimAndGo p j).jobs.ended = s.jobs.ended ∧ (s.claimAndGo p j).binder.routes = s.binder.routes ∧
    (s.claimAndGo p j).binder.unbound = s.binder.unbound ∧ (s.claimAndGo p j).binder.queues = s.binder.queues ∧
    (s.claimAndGo p j).binder.bindOrder = s.binder.bindOrder ∧ (s.claimAndGo p j).table = s.table ∧
    (s.claimAndGo p j).meter = s.meter ∧ (s.claimAndGo p j).alerts = s.alerts ∧
    (s.claimAndGo p j).notices = s.notices ∧ (s.claimAndGo p j).control = s.control ∧
    (s.claimAndGo p j).freeTick = s.freeTick ∧ (s.claimAndGo p j).pending = s.pending := by
  simp [State.claimAndGo]

@[simp] theorem State.sendFront_frame (s : State) (p : Port) :
    (s.sendFront p).link = s.link ∧ (s.sendFront p).intake = s.intake ∧ (s.sendFront p).spool = s.spool ∧
    (s.sendFront p).jobs = s.jobs ∧ (s.sendFront p).binder = s.binder ∧ (s.sendFront p).table = s.table ∧
    (s.sendFront p).locks = s.locks ∧ (s.sendFront p).meter = s.meter ∧ (s.sendFront p).alerts = s.alerts ∧
    (s.sendFront p).notices = s.notices ∧ (s.sendFront p).control = s.control ∧
    (s.sendFront p).freeTick = s.freeTick ∧ (s.sendFront p).pending = s.pending := by
  unfold State.sendFront; (repeat' split) <;> simp

@[simp] theorem State.confirmSheet_frame (s : State) (j : JobSlot) :
    (s.confirmSheet j).link = s.link ∧ (s.confirmSheet j).intake = s.intake ∧
    (s.confirmSheet j).spool.links = s.spool.links ∧ (s.confirmSheet j).spool.mem = s.spool.mem ∧
    (s.confirmSheet j).spool.granted = s.spool.granted ∧ (s.confirmSheet j).spool.ranks = s.spool.ranks ∧
    (s.confirmSheet j).jobs.ended = s.jobs.ended ∧ (s.confirmSheet j).binder = s.binder ∧
    (s.confirmSheet j).ports = s.ports ∧ (s.confirmSheet j).table = s.table ∧ (s.confirmSheet j).locks = s.locks ∧
    (s.confirmSheet j).meter = s.meter ∧ (s.confirmSheet j).alerts = s.alerts ∧
    (s.confirmSheet j).notices = s.notices ∧ (s.confirmSheet j).control = s.control ∧
    (s.confirmSheet j).pressOut = s.pressOut ∧ (s.confirmSheet j).freeTick = s.freeTick ∧
    (s.confirmSheet j).pending = s.pending := by
  unfold State.confirmSheet; dsimp only; (repeat' split) <;> simp

@[simp] theorem State.resolveGood_frame (s : State) (p : Port) (e : InFlight) :
    (s.resolveGood p e).link = s.link ∧ (s.resolveGood p e).intake = s.intake ∧
    (s.resolveGood p e).spool.links = s.spool.links ∧ (s.resolveGood p e).spool.mem = s.spool.mem ∧
    (s.resolveGood p e).spool.granted = s.spool.granted ∧ (s.resolveGood p e).spool.ranks = s.spool.ranks ∧
    (s.resolveGood p e).jobs.ended = s.jobs.ended ∧ (s.resolveGood p e).binder = s.binder ∧
    (s.resolveGood p e).table = s.table ∧ (s.resolveGood p e).locks = s.locks ∧
    (s.resolveGood p e).meter.rates = s.meter.rates ∧ (s.resolveGood p e).meter.periodTimer = s.meter.periodTimer ∧
    (s.resolveGood p e).alerts = s.alerts ∧ (s.resolveGood p e).notices = s.notices ∧
    (s.resolveGood p e).control = s.control ∧ (s.resolveGood p e).pressOut = s.pressOut ∧
    (s.resolveGood p e).freeTick = s.freeTick ∧ (s.resolveGood p e).pending = s.pending := by
  unfold State.resolveGood; dsimp only; (repeat' split) <;> simp

@[simp] theorem State.resolveSpoiled_frame (s : State) (p : Port) (e : InFlight) :
    (s.resolveSpoiled p e).link = s.link ∧ (s.resolveSpoiled p e).intake = s.intake ∧
    (s.resolveSpoiled p e).spool = s.spool ∧ (s.resolveSpoiled p e).jobs.ended = s.jobs.ended ∧
    (s.resolveSpoiled p e).binder = s.binder ∧ (s.resolveSpoiled p e).table = s.table ∧
    (s.resolveSpoiled p e).locks = s.locks ∧ (s.resolveSpoiled p e).meter.rates = s.meter.rates ∧
    (s.resolveSpoiled p e).meter.periodTimer = s.meter.periodTimer ∧ (s.resolveSpoiled p e).alerts = s.alerts ∧
    (s.resolveSpoiled p e).notices.mask = s.notices.mask ∧
    (s.resolveSpoiled p e).notices.reports = s.notices.reports ∧ (s.resolveSpoiled p e).control = s.control ∧
    (s.resolveSpoiled p e).pressOut = s.pressOut ∧ (s.resolveSpoiled p e).freeTick = s.freeTick ∧
    (s.resolveSpoiled p e).pending = s.pending := by
  simp [State.resolveSpoiled]

@[simp] theorem State.feedSheet_frame (s : State) (p : Port) (j : JobSlot) (r : Job) (b : Block) (st : SheetStart) :
    (s.feedSheet p j r b st).link = s.link ∧ (s.feedSheet p j r b st).intake = s.intake ∧
    (s.feedSheet p j r b st).spool = s.spool ∧ (s.feedSheet p j r b st).jobs.ended = s.jobs.ended ∧
    (s.feedSheet p j r b st).binder = s.binder ∧ (s.feedSheet p j r b st).table = s.table ∧
    (s.feedSheet p j r b st).locks = s.locks ∧ (s.feedSheet p j r b st).meter.rates = s.meter.rates ∧
    (s.feedSheet p j r b st).meter.periodTimer = s.meter.periodTimer ∧ (s.feedSheet p j r b st).alerts = s.alerts ∧
    (s.feedSheet p j r b st).notices.mask = s.notices.mask ∧
    (s.feedSheet p j r b st).notices.reports = s.notices.reports ∧ (s.feedSheet p j r b st).control = s.control ∧
    (s.feedSheet p j r b st).freeTick = s.freeTick ∧ (s.feedSheet p j r b st).pending = s.pending := by
  simp [State.feedSheet]

@[simp] theorem State.refuseFeed_frame (s : State) (p : Port) (j : JobSlot) (a : Account) :
    (s.refuseFeed p j a).link = s.link ∧ (s.refuseFeed p j a).intake = s.intake ∧
    (s.refuseFeed p j a).spool = s.spool ∧ (s.refuseFeed p j a).jobs.ended = s.jobs.ended ∧
    (s.refuseFeed p j a).binder = s.binder ∧ (s.refuseFeed p j a).table = s.table ∧
    (s.refuseFeed p j a).locks = s.locks ∧ (s.refuseFeed p j a).meter = s.meter ∧
    (s.refuseFeed p j a).alerts = s.alerts ∧ (s.refuseFeed p j a).notices.mask = s.notices.mask ∧
    (s.refuseFeed p j a).notices.reports = s.notices.reports ∧ (s.refuseFeed p j a).control = s.control ∧
    (s.refuseFeed p j a).freeTick = s.freeTick ∧ (s.refuseFeed p j a).pending = s.pending := by
  simp [State.refuseFeed]

@[simp] theorem State.feedAttempt_frame (p : Port) (n : Nat) (s : State) :
    (State.feedAttempt p n s).link = s.link ∧ (State.feedAttempt p n s).intake = s.intake ∧
    (State.feedAttempt p n s).spool = s.spool ∧ (State.feedAttempt p n s).jobs.ended = s.jobs.ended ∧
    (State.feedAttempt p n s).binder = s.binder ∧ (State.feedAttempt p n s).table = s.table ∧
    (State.feedAttempt p n s).locks = s.locks ∧ (State.feedAttempt p n s).meter.rates = s.meter.rates ∧
    (State.feedAttempt p n s).meter.periodTimer = s.meter.periodTimer ∧
    (State.feedAttempt p n s).alerts = s.alerts ∧ (State.feedAttempt p n s).notices.mask = s.notices.mask ∧
    (State.feedAttempt p n s).notices.reports = s.notices.reports ∧ (State.feedAttempt p n s).control = s.control ∧
    (State.feedAttempt p n s).pending = s.pending := by
  induction n generalizing s with
  | zero => simp [State.feedAttempt]
  | succ n ih => unfold State.feedAttempt; dsimp only; (repeat' split) <;> simp [ih]

@[simp] theorem State.attemptFeed_frame (s : State) (p : Port) :
    (s.attemptFeed p).link = s.link ∧ (s.attemptFeed p).intake = s.intake ∧ (s.attemptFeed p).spool = s.spool ∧
    (s.attemptFeed p).jobs.ended = s.jobs.ended ∧ (s.attemptFeed p).binder = s.binder ∧
    (s.attemptFeed p).table = s.table ∧ (s.attemptFeed p).locks = s.locks ∧
    (s.attemptFeed p).meter.rates = s.meter.rates ∧ (s.attemptFeed p).meter.periodTimer = s.meter.periodTimer ∧
    (s.attemptFeed p).alerts = s.alerts ∧ (s.attemptFeed p).notices.mask = s.notices.mask ∧
    (s.attemptFeed p).notices.reports = s.notices.reports ∧ (s.attemptFeed p).control = s.control ∧
    (s.attemptFeed p).pending = s.pending := by
  simp [State.attemptFeed]

@[simp] theorem State.endIfDry_frame (s : State) (p : Port) :
    (s.endIfDry p).link = s.link ∧ (s.endIfDry p).intake = s.intake ∧ (s.endIfDry p).spool = s.spool ∧
    (s.endIfDry p).jobs = s.jobs ∧ (s.endIfDry p).binder = s.binder ∧ (s.endIfDry p).table = s.table ∧
    (s.endIfDry p).locks = s.locks ∧ (s.endIfDry p).meter = s.meter ∧ (s.endIfDry p).alerts = s.alerts ∧
    (s.endIfDry p).notices = s.notices ∧ (s.endIfDry p).control = s.control ∧
    (s.endIfDry p).freeTick = s.freeTick ∧ (s.endIfDry p).pending = s.pending := by
  unfold State.endIfDry; (repeat' split) <;> simp

@[simp] theorem State.feedClosed_frame (s : State) (j : JobSlot) (waited : Bool) :
    (s.feedClosed j waited).link = s.link ∧ (s.feedClosed j waited).intake = s.intake ∧
    (s.feedClosed j waited).spool = s.spool ∧ (s.feedClosed j waited).jobs.ended = s.jobs.ended ∧
    (s.feedClosed j waited).binder = s.binder ∧ (s.feedClosed j waited).table = s.table ∧
    (s.feedClosed j waited).locks = s.locks ∧ (s.feedClosed j waited).meter.rates = s.meter.rates ∧
    (s.feedClosed j waited).meter.periodTimer = s.meter.periodTimer ∧ (s.feedClosed j waited).alerts = s.alerts ∧
    (s.feedClosed j waited).notices.mask = s.notices.mask ∧
    (s.feedClosed j waited).notices.reports = s.notices.reports ∧ (s.feedClosed j waited).control = s.control ∧
    (s.feedClosed j waited).pending = s.pending := by
  unfold State.feedClosed; (repeat' split) <;> simp

@[simp] theorem State.spoilAll_frame (s : State) (p : Port) :
    (s.spoilAll p).link = s.link ∧ (s.spoilAll p).intake = s.intake ∧ (s.spoilAll p).spool = s.spool ∧
    (s.spoilAll p).jobs.ended = s.jobs.ended ∧ (s.spoilAll p).binder = s.binder ∧ (s.spoilAll p).table = s.table ∧
    (s.spoilAll p).locks = s.locks ∧ (s.spoilAll p).meter.rates = s.meter.rates ∧
    (s.spoilAll p).meter.periodTimer = s.meter.periodTimer ∧ (s.spoilAll p).alerts = s.alerts ∧
    (s.spoilAll p).notices.mask = s.notices.mask ∧ (s.spoilAll p).notices.reports = s.notices.reports ∧
    (s.spoilAll p).control = s.control ∧ (s.spoilAll p).pressOut = s.pressOut ∧
    (s.spoilAll p).freeTick = s.freeTick ∧ (s.spoilAll p).pending = s.pending := by
  exact foldl_relates (fun a b : State =>
      b.link = a.link ∧ b.intake = a.intake ∧ b.spool = a.spool ∧ b.jobs.ended = a.jobs.ended ∧
      b.binder = a.binder ∧ b.table = a.table ∧ b.locks = a.locks ∧ b.meter.rates = a.meter.rates ∧
      b.meter.periodTimer = a.meter.periodTimer ∧ b.alerts = a.alerts ∧ b.notices.mask = a.notices.mask ∧
      b.notices.reports = a.notices.reports ∧ b.control = a.control ∧ b.pressOut = a.pressOut ∧
      b.freeTick = a.freeTick ∧ b.pending = a.pending)
    (by simp) (by intro a b c h1 h2; simp_all) (fun s e => s.resolveSpoiled p e) (by intro s x; simp) (s.port p).inFlight s

@[simp] theorem State.abandonRun_frame (s : State) (p : Port) :
    (s.abandonRun p).link = s.link ∧ (s.abandonRun p).intake = s.intake ∧ (s.abandonRun p).spool = s.spool ∧
    (s.abandonRun p).jobs.ended = s.jobs.ended ∧ (s.abandonRun p).binder = s.binder ∧
    (s.abandonRun p).table = s.table ∧ (s.abandonRun p).locks = s.locks ∧
    (s.abandonRun p).meter.rates = s.meter.rates ∧ (s.abandonRun p).meter.periodTimer = s.meter.periodTimer ∧
    (s.abandonRun p).alerts = s.alerts ∧ (s.abandonRun p).notices.mask = s.notices.mask ∧
    (s.abandonRun p).notices.reports = s.notices.reports ∧ (s.abandonRun p).control = s.control ∧
    (s.abandonRun p).pressOut = s.pressOut ∧ (s.abandonRun p).freeTick = s.freeTick ∧
    (s.abandonRun p).pending = s.pending := by
  simp [State.abandonRun]

@[simp] theorem State.placeFetch_frame (s : State) (p : Port) :
    (s.placeFetch p).link = s.link ∧ (s.placeFetch p).intake = s.intake ∧ (s.placeFetch p).spool = s.spool ∧
    (s.placeFetch p).jobs = s.jobs ∧ (s.placeFetch p).binder = s.binder ∧ (s.placeFetch p).table = s.table ∧
    (s.placeFetch p).locks = s.locks ∧ (s.placeFetch p).meter = s.meter ∧ (s.placeFetch p).alerts = s.alerts ∧
    (s.placeFetch p).notices = s.notices ∧ (s.placeFetch p).control = s.control ∧
    (s.placeFetch p).pressOut = s.pressOut ∧ (s.placeFetch p).freeTick = s.freeTick ∧
    (s.placeFetch p).pending = s.pending := by
  unfold State.placeFetch; dsimp only; (repeat' split) <;> simp

@[simp] theorem State.servePort_frame (s : State) (p : Port) :
    (s.servePort p).link = s.link ∧ (s.servePort p).intake = s.intake ∧ (s.servePort p).spool = s.spool ∧
    (s.servePort p).jobs = s.jobs ∧ (s.servePort p).binder = s.binder ∧ (s.servePort p).table = s.table ∧
    (s.servePort p).locks = s.locks ∧ (s.servePort p).meter = s.meter ∧ (s.servePort p).alerts = s.alerts ∧
    (s.servePort p).notices = s.notices ∧ (s.servePort p).control = s.control ∧
    (s.servePort p).freeTick = s.freeTick ∧ (s.servePort p).pending = s.pending := by
  unfold State.servePort; dsimp only; (repeat' split) <;> simp

end Sys2Proof.Machine
end

