-- ==== Sys2Proof/Laws/FramesClosing.lean ====
section
/-! SUPPORT. What the end of a step leaves unchanged, part by part and as a whole. -/

namespace Sys2Proof.Machine

@[simp] theorem State.grantLock_frame (before s : State) (f : FinUnit) :
    (State.grantLock before s f).link = s.link ∧ (State.grantLock before s f).intake = s.intake ∧
    (State.grantLock before s f).spool = s.spool ∧ (State.grantLock before s f).jobs.ended = s.jobs.ended ∧
    (State.grantLock before s f).binder.routes = s.binder.routes ∧
    (State.grantLock before s f).binder.unbound = s.binder.unbound ∧
    (State.grantLock before s f).binder.queues = s.binder.queues ∧
    (State.grantLock before s f).binder.bindOrder = s.binder.bindOrder ∧
    (State.grantLock before s f).table = s.table ∧ (State.grantLock before s f).meter = s.meter ∧
    (State.grantLock before s f).alerts = s.alerts ∧ (State.grantLock before s f).notices = s.notices ∧
    (State.grantLock before s f).control = s.control ∧ (State.grantLock before s f).freeTick = s.freeTick ∧
    (State.grantLock before s f).pending = s.pending := by
  unfold State.grantLock; (repeat' split) <;> simp

@[simp] theorem State.grantLocks_frame (before s : State) :
    (State.grantLocks before s).link = s.link ∧ (State.grantLocks before s).intake = s.intake ∧
    (State.grantLocks before s).spool = s.spool ∧ (State.grantLocks before s).jobs.ended = s.jobs.ended ∧
    (State.grantLocks before s).binder.routes = s.binder.routes ∧
    (State.grantLocks before s).binder.unbound = s.binder.unbound ∧
    (State.grantLocks before s).binder.queues = s.binder.queues ∧
    (State.grantLocks before s).binder.bindOrder = s.binder.bindOrder ∧
    (State.grantLocks before s).table = s.table ∧ (State.grantLocks before s).meter = s.meter ∧
    (State.grantLocks before s).alerts = s.alerts ∧ (State.grantLocks before s).notices = s.notices ∧
    (State.grantLocks before s).control = s.control ∧ (State.grantLocks before s).freeTick = s.freeTick ∧
    (State.grantLocks before s).pending = s.pending := by
  exact foldl_relates (fun a b : State =>
      b.link = a.link ∧ b.intake = a.intake ∧ b.spool = a.spool ∧ b.jobs.ended = a.jobs.ended ∧
      b.binder.routes = a.binder.routes ∧ b.binder.unbound = a.binder.unbound ∧ b.binder.queues = a.binder.queues ∧
      b.binder.bindOrder = a.binder.bindOrder ∧ b.table = a.table ∧ b.meter = a.meter ∧ b.alerts = a.alerts ∧
      b.notices = a.notices ∧ b.control = a.control ∧ b.freeTick = a.freeTick ∧ b.pending = a.pending)
    (by simp) (by intro a b c h1 h2; simp_all) (State.grantLock before) (by intro s x; simp) (List.finRange 4) s

@[simp] theorem State.act_frame (s : State) (p : Port) :
    (s.act p).link = s.link ∧ (s.act p).intake = s.intake ∧ (s.act p).spool = s.spool ∧
    (s.act p).jobs.ended = s.jobs.ended ∧ (s.act p).binder.routes = s.binder.routes ∧
    (s.act p).binder.unbound = s.binder.unbound ∧ (s.act p).binder.queues = s.binder.queues ∧
    (s.act p).binder.bindOrder = s.binder.bindOrder ∧ (s.act p).table = s.table ∧ (s.act p).meter = s.meter ∧
    (s.act p).alerts = s.alerts ∧ (s.act p).notices = s.notices ∧ (s.act p).control = s.control ∧
    (s.act p).freeTick = s.freeTick ∧ (s.act p).pending = s.pending := by
  unfold State.act; (repeat' split) <;> simp

theorem State.pickOne_state {α : Type} (s : State) (l : List α) :
    (s.pickOne l).2 = s ∨ (s.pickOne l).2 = s.bumpTick := by
  unfold State.pickOne; split <;> simp

@[simp] theorem State.pickOne_frame {α : Type} (s : State) (l : List α) :
    (s.pickOne l).2.link = s.link ∧ (s.pickOne l).2.intake = s.intake ∧ (s.pickOne l).2.spool = s.spool ∧
    (s.pickOne l).2.jobs = s.jobs ∧ (s.pickOne l).2.binder = s.binder ∧ (s.pickOne l).2.ports = s.ports ∧
    (s.pickOne l).2.table = s.table ∧ (s.pickOne l).2.locks = s.locks ∧ (s.pickOne l).2.meter = s.meter ∧
    (s.pickOne l).2.alerts = s.alerts ∧ (s.pickOne l).2.notices = s.notices ∧ (s.pickOne l).2.control = s.control ∧
    (s.pickOne l).2.pressOut = s.pressOut ∧ (s.pickOne l).2.pending = s.pending := by
  rcases s.pickOne_state l with h | h <;> rw [h] <;> simp

@[simp] theorem State.actPorts_frame (n : Nat) (s : State) :
    (State.actPorts n s).link = s.link ∧ (State.actPorts n s).intake = s.intake ∧
    (State.actPorts n s).spool = s.spool ∧ (State.actPorts n s).jobs.ended = s.jobs.ended ∧
    (State.actPorts n s).binder.routes = s.binder.routes ∧ (State.actPorts n s).binder.unbound = s.binder.unbound ∧
    (State.actPorts n s).binder.queues = s.binder.queues ∧
    (State.actPorts n s).binder.bindOrder = s.binder.bindOrder ∧ (State.actPorts n s).table = s.table ∧
    (State.actPorts n s).meter = s.meter ∧ (State.actPorts n s).alerts = s.alerts ∧
    (State.actPorts n s).notices = s.notices ∧ (State.actPorts n s).control = s.control ∧
    (State.actPorts n s).pending = s.pending := by
  induction n generalizing s with
  | zero => simp [State.actPorts]
  | succ n ih => unfold State.actPorts; dsimp only; (repeat' split) <;> simp [ih]

@[simp] theorem State.grant_frame (s : State) (r : Requester) :
    (s.grant r).link = s.link ∧ (s.grant r).intake = s.intake ∧ (s.grant r).spool.pool = s.spool.pool ∧
    (s.grant r).spool.links = s.spool.links ∧ (s.grant r).spool.mem = s.spool.mem ∧
    (s.grant r).spool.ranks = s.spool.ranks ∧ (s.grant r).jobs = s.jobs ∧ (s.grant r).binder = s.binder ∧
    (s.grant r).table = s.table ∧ (s.grant r).locks = s.locks ∧ (s.grant r).meter = s.meter ∧
    (s.grant r).alerts = s.alerts ∧ (s.grant r).notices = s.notices ∧ (s.grant r).control = s.control ∧
    (s.grant r).pressOut = s.pressOut ∧ (s.grant r).freeTick = s.freeTick ∧ (s.grant r).pending = s.pending := by
  unfold State.grant; dsimp only; (repeat' split) <;> simp

/-- A requester that may be granted waits, is not behind one that waited before, and is not the one whose own transfer
has completed while such a one waits (R108). -/
theorem State.mem_grantable {before s : State} {r : Requester} (h : r ∈ State.grantable before s) :
    s.requestWaits r = true ∧ ∀ o, s.requestWaits o = true → before.requestWaits o = true →
      tget s.spool.ranks r ≤ tget s.spool.ranks o ∧ (before.requestWaits r = true ∨ before.serves r = false) := by
  simp only [State.grantable] at h
  split at h
  · rename_i hn
    refine ⟨(List.mem_filter.mp h).2, fun o ho hb => ?_⟩
    have : o ∈ (State.waiters s).filter before.requestWaits :=
      List.mem_filter.mpr ⟨List.mem_filter.mpr ⟨List.mem_finRange o, ho⟩, hb⟩
    rw [hn] at this; cases this
  · obtain ⟨hw, hk⟩ := List.mem_filter.mp h
    simp only [Bool.and_eq_true, Bool.or_eq_true, Bool.not_eq_true', List.all_eq_true, decide_eq_true_eq] at hk
    exact ⟨(List.mem_filter.mp hw).2, fun o ho hb =>
      ⟨hk.2 o (List.mem_filter.mpr ⟨List.mem_filter.mpr ⟨List.mem_finRange o, ho⟩, hb⟩), hk.1⟩⟩

@[simp] theorem State.arbitrate_frame (before s : State) :
    (State.arbitrate before s).link = s.link ∧ (State.arbitrate before s).intake = s.intake ∧
    (State.arbitrate before s).spool.pool = s.spool.pool ∧ (State.arbitrate before s).spool.links = s.spool.links ∧
    (State.arbitrate before s).spool.mem = s.spool.mem ∧ (State.arbitrate before s).spool.ranks = s.spool.ranks ∧
    (State.arbitrate before s).jobs = s.jobs ∧ (State.arbitrate before s).binder = s.binder ∧
    (State.arbitrate before s).table = s.table ∧ (State.arbitrate before s).locks = s.locks ∧
    (State.arbitrate before s).meter = s.meter ∧ (State.arbitrate before s).alerts = s.alerts ∧
    (State.arbitrate before s).notices = s.notices ∧ (State.arbitrate before s).control = s.control ∧
    (State.arbitrate before s).pressOut = s.pressOut ∧ (State.arbitrate before s).pending = s.pending := by
  unfold State.arbitrate; dsimp only; (repeat' split) <;> simp

@[simp] theorem State.settleStandby_frame (before s : State) (p : Port) :
    (State.settleStandby before s p).link = s.link ∧ (State.settleStandby before s p).intake = s.intake ∧
    (State.settleStandby before s p).spool = s.spool ∧ (State.settleStandby before s p).jobs = s.jobs ∧
    (State.settleStandby before s p).binder = s.binder ∧ (State.settleStandby before s p).table = s.table ∧
    (State.settleStandby before s p).locks = s.locks ∧ (State.settleStandby before s p).meter = s.meter ∧
    (State.settleStandby before s p).alerts = s.alerts ∧ (State.settleStandby before s p).notices = s.notices ∧
    (State.settleStandby before s p).control = s.control ∧ (State.settleStandby before s p).pressOut = s.pressOut ∧
    (State.settleStandby before s p).freeTick = s.freeTick ∧ (State.settleStandby before s p).pending = s.pending := by
  unfold State.settleStandby; (repeat' split) <;> simp

@[simp] theorem State.settleStall_frame (s : State) :
    (s.settleStall).link = s.link ∧ (s.settleStall).spool = s.spool ∧ (s.settleStall).jobs = s.jobs ∧
    (s.settleStall).binder = s.binder ∧ (s.settleStall).ports = s.ports ∧ (s.settleStall).table = s.table ∧
    (s.settleStall).locks = s.locks ∧ (s.settleStall).meter = s.meter ∧ (s.settleStall).alerts = s.alerts ∧
    (s.settleStall).notices = s.notices ∧ (s.settleStall).control = s.control ∧
    (s.settleStall).pressOut = s.pressOut ∧ (s.settleStall).freeTick = s.freeTick ∧
    (s.settleStall).pending = s.pending := by
  unfold State.settleStall; (repeat' split) <;> simp

@[simp] theorem State.takeAlert_frame (s : State) (p : Port) :
    (s.takeAlert p).intake = s.intake ∧ (s.takeAlert p).spool = s.spool ∧ (s.takeAlert p).jobs = s.jobs ∧
    (s.takeAlert p).binder = s.binder ∧ (s.takeAlert p).ports = s.ports ∧ (s.takeAlert p).table = s.table ∧
    (s.takeAlert p).locks = s.locks ∧ (s.takeAlert p).meter = s.meter ∧ (s.takeAlert p).notices = s.notices ∧
    (s.takeAlert p).control = s.control ∧ (s.takeAlert p).pressOut = s.pressOut ∧
    (s.takeAlert p).pending = s.pending := by
  simp [State.takeAlert]

@[simp] theorem State.takeJobEnd_frame (s : State) (j : JobSlot) (r : Job) :
    (s.takeJobEnd j r).intake = s.intake ∧ (s.takeJobEnd j r).spool = s.spool ∧
    (s.takeJobEnd j r).binder = s.binder ∧ (s.takeJobEnd j r).ports = s.ports ∧
    (s.takeJobEnd j r).table = s.table ∧ (s.takeJobEnd j r).locks = s.locks ∧ (s.takeJobEnd j r).meter = s.meter ∧
    (s.takeJobEnd j r).alerts = s.alerts ∧ (s.takeJobEnd j r).notices = s.notices ∧
    (s.takeJobEnd j r).control = s.control ∧ (s.takeJobEnd j r).pressOut = s.pressOut ∧
    (s.takeJobEnd j r).pending = s.pending := by
  simp [State.takeJobEnd]

@[simp] theorem State.takeAccount_frame (s : State) (a : Nat) (e : AccountEvents) :
    (s.takeAccount a e).intake = s.intake ∧ (s.takeAccount a e).spool = s.spool ∧
    (s.takeAccount a e).jobs = s.jobs ∧ (s.takeAccount a e).binder = s.binder ∧
    (s.takeAccount a e).ports = s.ports ∧ (s.takeAccount a e).table = s.table ∧
    (s.takeAccount a e).locks = s.locks ∧ (s.takeAccount a e).meter = s.meter ∧
    (s.takeAccount a e).alerts = s.alerts ∧ (s.takeAccount a e).notices.mask = s.notices.mask ∧
    (s.takeAccount a e).notices.reports = s.notices.reports ∧ (s.takeAccount a e).control = s.control ∧
    (s.takeAccount a e).pressOut = s.pressOut ∧ (s.takeAccount a e).freeTick = s.freeTick ∧
    (s.takeAccount a e).pending = s.pending := by
  unfold State.takeAccount; dsimp only; (repeat' split) <;> simp

@[simp] theorem State.takeMeter_frame (s : State) (a : Nat) (e : MeterReport) :
    (s.takeMeter a e).intake = s.intake ∧ (s.takeMeter a e).spool = s.spool ∧ (s.takeMeter a e).jobs = s.jobs ∧
    (s.takeMeter a e).binder = s.binder ∧ (s.takeMeter a e).ports = s.ports ∧ (s.takeMeter a e).table = s.table ∧
    (s.takeMeter a e).locks = s.locks ∧ (s.takeMeter a e).meter = s.meter ∧ (s.takeMeter a e).alerts = s.alerts ∧
    (s.takeMeter a e).notices.mask = s.notices.mask ∧ (s.takeMeter a e).notices.events = s.notices.events ∧
    (s.takeMeter a e).control = s.control ∧ (s.takeMeter a e).pressOut = s.pressOut ∧
    (s.takeMeter a e).freeTick = s.freeTick ∧ (s.takeMeter a e).pending = s.pending := by
  simp [State.takeMeter]

@[simp] theorem State.noticeMeter_frame (s : State) :
    (s.noticeMeter).intake = s.intake ∧ (s.noticeMeter).spool = s.spool ∧ (s.noticeMeter).jobs = s.jobs ∧
    (s.noticeMeter).binder = s.binder ∧ (s.noticeMeter).ports = s.ports ∧ (s.noticeMeter).table = s.table ∧
    (s.noticeMeter).locks = s.locks ∧ (s.noticeMeter).meter = s.meter ∧ (s.noticeMeter).alerts = s.alerts ∧
    (s.noticeMeter).notices.mask = s.notices.mask ∧ (s.noticeMeter).notices.events = s.notices.events ∧
    (s.noticeMeter).control = s.control ∧ (s.noticeMeter).pressOut = s.pressOut ∧
    (s.noticeMeter).freeTick = s.freeTick ∧ (s.noticeMeter).pending = s.pending := by
  unfold State.noticeMeter; (repeat' split) <;> simp

@[simp] theorem State.noticeAccount_frame (s : State) :
    (s.noticeAccount).intake = s.intake ∧ (s.noticeAccount).spool = s.spool ∧ (s.noticeAccount).jobs = s.jobs ∧
    (s.noticeAccount).binder = s.binder ∧ (s.noticeAccount).ports = s.ports ∧ (s.noticeAccount).table = s.table ∧
    (s.noticeAccount).locks = s.locks ∧ (s.noticeAccount).meter = s.meter ∧ (s.noticeAccount).alerts = s.alerts ∧
    (s.noticeAccount).notices.mask = s.notices.mask ∧ (s.noticeAccount).control = s.control ∧
    (s.noticeAccount).pressOut = s.pressOut ∧ (s.noticeAccount).freeTick = s.freeTick ∧
    (s.noticeAccount).pending = s.pending := by
  unfold State.noticeAccount; (repeat' split) <;> simp

@[simp] theorem State.sendNotice_frame (s : State) :
    (s.sendNotice).intake = s.intake ∧ (s.sendNotice).spool = s.spool ∧ (s.sendNotice).binder = s.binder ∧
    (s.sendNotice).ports = s.ports ∧ (s.sendNotice).table = s.table ∧ (s.sendNotice).locks = s.locks ∧
    (s.sendNotice).meter = s.meter ∧ (s.sendNotice).notices.mask = s.notices.mask ∧
    (s.sendNotice).control = s.control ∧ (s.sendNotice).pressOut = s.pressOut ∧ (s.sendNotice).pending = s.pending := by
  unfold State.sendNotice; (repeat' split) <;> simp

@[simp] theorem State.sendFlow_frame (s : State) :
    (s.sendFlow).intake = s.intake ∧ (s.sendFlow).spool = s.spool ∧ (s.sendFlow).jobs = s.jobs ∧
    (s.sendFlow).binder = s.binder ∧ (s.sendFlow).ports = s.ports ∧ (s.sendFlow).table = s.table ∧
    (s.sendFlow).locks = s.locks ∧ (s.sendFlow).meter = s.meter ∧ (s.sendFlow).alerts = s.alerts ∧
    (s.sendFlow).notices = s.notices ∧ (s.sendFlow).control = s.control ∧ (s.sendFlow).pressOut = s.pressOut ∧
    (s.sendFlow).freeTick = s.freeTick ∧ (s.sendFlow).pending = s.pending := by
  simp [State.sendFlow]

@[simp] theorem State.sendReply_frame (s : State) (r : Reply) :
    (s.sendReply r).intake = s.intake ∧ (s.sendReply r).spool = s.spool ∧ (s.sendReply r).jobs = s.jobs ∧
    (s.sendReply r).binder = s.binder ∧ (s.sendReply r).ports = s.ports ∧ (s.sendReply r).table = s.table ∧
    (s.sendReply r).locks = s.locks ∧ (s.sendReply r).meter = s.meter ∧ (s.sendReply r).alerts = s.alerts ∧
    (s.sendReply r).notices = s.notices ∧ (s.sendReply r).control = s.control ∧
    (s.sendReply r).pressOut = s.pressOut ∧ (s.sendReply r).freeTick = s.freeTick ∧
    (s.sendReply r).pending = s.pending := by
  simp [State.sendReply]

@[simp] theorem State.transmit_frame (s : State) :
    (s.transmit).intake = s.intake ∧ (s.transmit).spool = s.spool ∧ (s.transmit).binder = s.binder ∧
    (s.transmit).ports = s.ports ∧ (s.transmit).table = s.table ∧ (s.transmit).locks = s.locks ∧
    (s.transmit).meter = s.meter ∧ (s.transmit).notices.mask = s.notices.mask ∧ (s.transmit).control = s.control ∧
    (s.transmit).pressOut = s.pressOut ∧ (s.transmit).pending = s.pending := by
  unfold State.transmit; (repeat' split) <;> simp

@[simp] theorem State.linkClosing_frame (s : State) :
    (s.linkClosing).spool = s.spool ∧ (s.linkClosing).binder = s.binder ∧ (s.linkClosing).ports = s.ports ∧
    (s.linkClosing).table = s.table ∧ (s.linkClosing).locks = s.locks ∧ (s.linkClosing).meter = s.meter ∧
    (s.linkClosing).notices.mask = s.notices.mask ∧ (s.linkClosing).control = s.control ∧
    (s.linkClosing).pressOut = s.pressOut ∧ (s.linkClosing).pending = s.pending := by
  simp [State.linkClosing]

@[simp] theorem State.settlePorts_frame (before s : State) :
    (State.settlePorts before s).link = s.link ∧ (State.settlePorts before s).intake = s.intake ∧
    (State.settlePorts before s).spool = s.spool ∧ (State.settlePorts before s).jobs.ended = s.jobs.ended ∧
    (State.settlePorts before s).binder.routes = s.binder.routes ∧
    (State.settlePorts before s).binder.unbound = s.binder.unbound ∧
    (State.settlePorts before s).binder.queues = s.binder.queues ∧
    (State.settlePorts before s).binder.bindOrder = s.binder.bindOrder ∧
    (State.settlePorts before s).table = s.table ∧ (State.settlePorts before s).meter = s.meter ∧
    (State.settlePorts before s).alerts = s.alerts ∧ (State.settlePorts before s).notices = s.notices ∧
    (State.settlePorts before s).control = s.control ∧ (State.settlePorts before s).pending = s.pending := by
  simp [State.settlePorts]

@[simp] theorem serveAll_frame (s : State) :
    (allPorts.foldl State.servePort s).link = s.link ∧ (allPorts.foldl State.servePort s).intake = s.intake ∧
    (allPorts.foldl State.servePort s).spool = s.spool ∧ (allPorts.foldl State.servePort s).jobs = s.jobs ∧
    (allPorts.foldl State.servePort s).binder = s.binder ∧ (allPorts.foldl State.servePort s).table = s.table ∧
    (allPorts.foldl State.servePort s).locks = s.locks ∧ (allPorts.foldl State.servePort s).meter = s.meter ∧
    (allPorts.foldl State.servePort s).alerts = s.alerts ∧ (allPorts.foldl State.servePort s).notices = s.notices ∧
    (allPorts.foldl State.servePort s).control = s.control ∧
    (allPorts.foldl State.servePort s).freeTick = s.freeTick ∧
    (allPorts.foldl State.servePort s).pending = s.pending := by
  exact foldl_relates (fun a b : State =>
      b.link = a.link ∧ b.intake = a.intake ∧ b.spool = a.spool ∧ b.jobs = a.jobs ∧ b.binder = a.binder ∧
      b.table = a.table ∧ b.locks = a.locks ∧ b.meter = a.meter ∧ b.alerts = a.alerts ∧ b.notices = a.notices ∧
      b.control = a.control ∧ b.freeTick = a.freeTick ∧ b.pending = a.pending)
    (by simp) (by intro a b c h1 h2; simp_all) State.servePort (by intro s x; simp) allPorts s

@[simp] theorem standbyAll_frame (before s : State) :
    (allPorts.foldl (State.settleStandby before) s).link = s.link ∧
    (allPorts.foldl (State.settleStandby before) s).intake = s.intake ∧
    (allPorts.foldl (State.settleStandby before) s).spool = s.spool ∧
    (allPorts.foldl (State.settleStandby before) s).jobs = s.jobs ∧
    (allPorts.foldl (State.settleStandby before) s).binder = s.binder ∧
    (allPorts.foldl (State.settleStandby before) s).table = s.table ∧
    (allPorts.foldl (State.settleStandby before) s).locks = s.locks ∧
    (allPorts.foldl (State.settleStandby before) s).meter = s.meter ∧
    (allPorts.foldl (State.settleStandby before) s).alerts = s.alerts ∧
    (allPorts.foldl (State.settleStandby before) s).notices = s.notices ∧
    (allPorts.foldl (State.settleStandby before) s).control = s.control ∧
    (allPorts.foldl (State.settleStandby before) s).pressOut = s.pressOut ∧
    (allPorts.foldl (State.settleStandby before) s).freeTick = s.freeTick ∧
    (allPorts.foldl (State.settleStandby before) s).pending = s.pending := by
  exact foldl_relates (fun a b : State =>
      b.link = a.link ∧ b.intake = a.intake ∧ b.spool = a.spool ∧ b.jobs = a.jobs ∧ b.binder = a.binder ∧
      b.table = a.table ∧ b.locks = a.locks ∧ b.meter = a.meter ∧ b.alerts = a.alerts ∧ b.notices = a.notices ∧
      b.control = a.control ∧ b.pressOut = a.pressOut ∧ b.freeTick = a.freeTick ∧ b.pending = a.pending)
    (by simp) (by intro a b c h1 h2; simp_all) (State.settleStandby before) (by intro s x; simp) allPorts s

@[simp] theorem State.settleSpool_frame (before s : State) :
    (State.settleSpool before s).link = s.link ∧ (State.settleSpool before s).intake = s.intake ∧
    (State.settleSpool before s).spool.pool = s.spool.pool ∧
    (State.settleSpool before s).spool.links = s.spool.links ∧
    (State.settleSpool before s).spool.mem = s.spool.mem ∧
    (State.settleSpool before s).spool.ranks = s.spool.ranks ∧ (State.settleSpool before s).jobs = s.jobs ∧
    (State.settleSpool before s).binder = s.binder ∧ (State.settleSpool before s).table = s.table ∧
    (State.settleSpool before s).locks = s.locks ∧ (State.settleSpool before s).meter = s.meter ∧
    (State.settleSpool before s).alerts = s.alerts ∧ (State.settleSpool before s).notices = s.notices ∧
    (State.settleSpool before s).control = s.control ∧ (State.settleSpool before s).pending = s.pending := by
  simp [State.settleSpool]

@[simp] theorem State.closing_frame (before s : State) :
    (State.closing before s).spool.pool = s.spool.pool ∧ (State.closing before s).spool.links = s.spool.links ∧
    (State.closing before s).spool.mem = s.spool.mem ∧ (State.closing before s).spool.ranks = s.spool.ranks ∧
    (State.closing before s).binder.routes = s.binder.routes ∧
    (State.closing before s).binder.unbound = s.binder.unbound ∧
    (State.closing before s).binder.queues = s.binder.queues ∧
    (State.closing before s).binder.bindOrder = s.binder.bindOrder ∧ (State.closing before s).table = s.table ∧
    (State.closing before s).meter = s.meter ∧ (State.closing before s).notices.mask = s.notices.mask ∧
    (State.closing before s).control = s.control ∧ (State.closing before s).pending = s.pending := by
  simp [State.closing]

end Sys2Proof.Machine
end

