-- ==== Sys2Proof/Laws/FramesIntake.lean ====
section
/-! SUPPORT. What each operation of the intake unit and of the link leaves unchanged. -/

namespace Sys2Proof.Machine

@[simp] theorem State.bringUp_frame (s : State) :
    (s.bringUp).intake = s.intake ∧ (s.bringUp).spool = s.spool ∧ (s.bringUp).jobs = s.jobs ∧
    (s.bringUp).binder = s.binder ∧ (s.bringUp).ports = s.ports ∧ (s.bringUp).table = s.table ∧
    (s.bringUp).locks = s.locks ∧ (s.bringUp).meter = s.meter ∧ (s.bringUp).notices = s.notices ∧
    (s.bringUp).control = s.control ∧ (s.bringUp).pressOut = s.pressOut ∧ (s.bringUp).freeTick = s.freeTick ∧
    (s.bringUp).pending = s.pending := by
  simp [State.bringUp]

@[simp] theorem State.breakAtLinkDown_frame (s : State) (j : JobSlot) :
    (s.breakAtLinkDown j).link = s.link ∧ (s.breakAtLinkDown j).spool.links = s.spool.links ∧
    (s.breakAtLinkDown j).spool.mem = s.spool.mem ∧ (s.breakAtLinkDown j).spool.granted = s.spool.granted ∧
    (s.breakAtLinkDown j).spool.ranks = s.spool.ranks ∧ (s.breakAtLinkDown j).binder.routes = s.binder.routes ∧
    (s.breakAtLinkDown j).table = s.table ∧ (s.breakAtLinkDown j).meter = s.meter ∧
    (s.breakAtLinkDown j).alerts = s.alerts ∧ (s.breakAtLinkDown j).notices = s.notices ∧
    (s.breakAtLinkDown j).control = s.control ∧ (s.breakAtLinkDown j).freeTick = s.freeTick ∧
    (s.breakAtLinkDown j).pending = s.pending := by
  unfold State.breakAtLinkDown; (repeat' split) <;> simp

@[simp] theorem State.sortJobFrame_frame (s : State) (f : Frame) :
    (s.sortJobFrame f).intake = s.intake ∧ (s.sortJobFrame f).spool = s.spool ∧ (s.sortJobFrame f).jobs = s.jobs ∧
    (s.sortJobFrame f).binder = s.binder ∧ (s.sortJobFrame f).ports = s.ports ∧
    (s.sortJobFrame f).table = s.table ∧ (s.sortJobFrame f).locks = s.locks ∧ (s.sortJobFrame f).meter = s.meter ∧
    (s.sortJobFrame f).alerts = s.alerts ∧ (s.sortJobFrame f).notices = s.notices ∧
    (s.sortJobFrame f).control = s.control ∧ (s.sortJobFrame f).pressOut = s.pressOut ∧
    (s.sortJobFrame f).freeTick = s.freeTick ∧ (s.sortJobFrame f).pending = s.pending := by
  unfold State.sortJobFrame; (repeat' split) <;> simp

@[simp] theorem State.sortFrame_frame (s : State) (f : Frame) :
    (s.sortFrame f).intake = s.intake ∧ (s.sortFrame f).spool = s.spool ∧ (s.sortFrame f).jobs = s.jobs ∧
    (s.sortFrame f).binder = s.binder ∧ (s.sortFrame f).ports = s.ports ∧ (s.sortFrame f).table = s.table ∧
    (s.sortFrame f).locks = s.locks ∧ (s.sortFrame f).meter = s.meter ∧ (s.sortFrame f).alerts = s.alerts ∧
    (s.sortFrame f).notices = s.notices ∧ (s.sortFrame f).control = s.control ∧
    (s.sortFrame f).pressOut = s.pressOut ∧ (s.sortFrame f).freeTick = s.freeTick ∧
    (s.sortFrame f).pending = s.pending := by
  unfold State.sortFrame; (repeat' split) <;> simp

@[simp] theorem State.dropUnknown_frame (s : State) :
    (s.dropUnknown).intake = s.intake ∧ (s.dropUnknown).spool = s.spool ∧ (s.dropUnknown).jobs = s.jobs ∧
    (s.dropUnknown).binder = s.binder ∧ (s.dropUnknown).ports = s.ports ∧ (s.dropUnknown).table = s.table ∧
    (s.dropUnknown).locks = s.locks ∧ (s.dropUnknown).meter = s.meter ∧ (s.dropUnknown).alerts = s.alerts ∧
    (s.dropUnknown).notices = s.notices ∧ (s.dropUnknown).control = s.control ∧
    (s.dropUnknown).pressOut = s.pressOut ∧ (s.dropUnknown).freeTick = s.freeTick ∧
    (s.dropUnknown).pending = s.pending := by
  simp [State.dropUnknown]

@[simp] theorem State.breakGap_frame (s : State) (j : JobSlot) :
    (s.breakGap j).spool.links = s.spool.links ∧ (s.breakGap j).spool.mem = s.spool.mem ∧
    (s.breakGap j).spool.granted = s.spool.granted ∧ (s.breakGap j).spool.ranks = s.spool.ranks ∧
    (s.breakGap j).binder.routes = s.binder.routes ∧ (s.breakGap j).table = s.table ∧
    (s.breakGap j).meter = s.meter ∧ (s.breakGap j).alerts = s.alerts ∧ (s.breakGap j).notices = s.notices ∧
    (s.breakGap j).control = s.control ∧ (s.breakGap j).freeTick = s.freeTick ∧ (s.breakGap j).pending = s.pending := by
  simp [State.breakGap]

@[simp] theorem State.advanceSeq_frame (s : State) (j : JobSlot) (f : Frame) :
    (s.advanceSeq j f).link = s.link ∧ (s.advanceSeq j f).intake = s.intake ∧ (s.advanceSeq j f).spool = s.spool ∧
    (s.advanceSeq j f).jobs.ended = s.jobs.ended ∧ (s.advanceSeq j f).binder = s.binder ∧
    (s.advanceSeq j f).ports = s.ports ∧ (s.advanceSeq j f).table = s.table ∧ (s.advanceSeq j f).locks = s.locks ∧
    (s.advanceSeq j f).meter = s.meter ∧ (s.advanceSeq j f).alerts = s.alerts ∧
    (s.advanceSeq j f).notices = s.notices ∧ (s.advanceSeq j f).control = s.control ∧
    (s.advanceSeq j f).pressOut = s.pressOut ∧ (s.advanceSeq j f).freeTick = s.freeTick ∧
    (s.advanceSeq j f).pending = s.pending := by
  simp [State.advanceSeq]

@[simp] theorem State.bindNew_frame (s : State) (j : JobSlot) :
    (s.bindNew j).link = s.link ∧ (s.bindNew j).intake = s.intake ∧ (s.bindNew j).spool = s.spool ∧
    (s.bindNew j).jobs.ended = s.jobs.ended ∧ (s.bindNew j).binder.routes = s.binder.routes ∧
    (s.bindNew j).binder.claims = s.binder.claims ∧ (s.bindNew j).ports = s.ports ∧ (s.bindNew j).table = s.table ∧
    (s.bindNew j).locks = s.locks ∧ (s.bindNew j).meter = s.meter ∧ (s.bindNew j).alerts = s.alerts ∧
    (s.bindNew j).notices = s.notices ∧ (s.bindNew j).control = s.control ∧ (s.bindNew j).pressOut = s.pressOut ∧
    (s.bindNew j).freeTick = s.freeTick ∧ (s.bindNew j).pending = s.pending := by
  simp [State.bindNew]

@[simp] theorem State.acceptOpen_frame (s : State) (f : Frame) (a : OpenArgs) (j : JobSlot) (i : Fin 8) :
    (s.acceptOpen f a j i).spool = s.spool ∧ (s.acceptOpen f a j i).jobs.ended = s.jobs.ended ∧
    (s.acceptOpen f a j i).binder.routes = s.binder.routes ∧
    (s.acceptOpen f a j i).binder.claims = s.binder.claims ∧ (s.acceptOpen f a j i).ports = s.ports ∧
    (s.acceptOpen f a j i).table = s.table ∧ (s.acceptOpen f a j i).locks = s.locks ∧
    (s.acceptOpen f a j i).meter = s.meter ∧ (s.acceptOpen f a j i).alerts = s.alerts ∧
    (s.acceptOpen f a j i).notices = s.notices ∧ (s.acceptOpen f a j i).control = s.control ∧
    (s.acceptOpen f a j i).pressOut = s.pressOut ∧ (s.acceptOpen f a j i).freeTick = s.freeTick ∧
    (s.acceptOpen f a j i).pending = s.pending := by
  unfold State.acceptOpen; dsimp only; (repeat' split) <;> simp

@[simp] theorem State.placeWrite_frame (s : State) (j : JobSlot) (b off : Nat) (bytes : List Byte) :
    (s.placeWrite j b off bytes).link = s.link ∧ (s.placeWrite j b off bytes).spool = s.spool ∧
    (s.placeWrite j b off bytes).jobs = s.jobs ∧ (s.placeWrite j b off bytes).binder = s.binder ∧
    (s.placeWrite j b off bytes).ports = s.ports ∧ (s.placeWrite j b off bytes).table = s.table ∧
    (s.placeWrite j b off bytes).locks = s.locks ∧ (s.placeWrite j b off bytes).meter = s.meter ∧
    (s.placeWrite j b off bytes).alerts = s.alerts ∧ (s.placeWrite j b off bytes).notices = s.notices ∧
    (s.placeWrite j b off bytes).control = s.control ∧ (s.placeWrite j b off bytes).pressOut = s.pressOut ∧
    (s.placeWrite j b off bytes).freeTick = s.freeTick ∧ (s.placeWrite j b off bytes).pending = s.pending := by
  unfold State.placeWrite; (repeat' split) <;> simp

@[simp] theorem State.modPlace_frame (s : State) (j : JobSlot) (f : IntakeSlot → IntakeSlot) :
    (s.modPlace j f).link = s.link ∧ (s.modPlace j f).spool = s.spool ∧ (s.modPlace j f).jobs = s.jobs ∧
    (s.modPlace j f).binder = s.binder ∧ (s.modPlace j f).ports = s.ports ∧ (s.modPlace j f).table = s.table ∧
    (s.modPlace j f).locks = s.locks ∧ (s.modPlace j f).meter = s.meter ∧ (s.modPlace j f).alerts = s.alerts ∧
    (s.modPlace j f).notices = s.notices ∧ (s.modPlace j f).control = s.control ∧
    (s.modPlace j f).pressOut = s.pressOut ∧ (s.modPlace j f).freeTick = s.freeTick ∧
    (s.modPlace j f).pending = s.pending := by
  unfold State.modPlace; (repeat' split) <;> simp

theorem State.takeBlock_frame {s t : State} {j : JobSlot} {b : Block} (h : s.takeBlock j = some (b, t)) :
    t.link = s.link ∧ t.intake = s.intake ∧ t.spool.mem = s.spool.mem ∧ t.spool.granted = s.spool.granted ∧
    t.spool.ranks = s.spool.ranks ∧ t.jobs.ended = s.jobs.ended ∧ t.binder = s.binder ∧ t.ports = s.ports ∧
    t.table = s.table ∧ t.locks = s.locks ∧ t.meter = s.meter ∧ t.alerts = s.alerts ∧
    t.notices = s.notices ∧ t.control = s.control ∧ t.pressOut = s.pressOut ∧ t.freeTick = s.freeTick ∧
    t.pending = s.pending := by
  unfold State.takeBlock at h
  split at h
  · dsimp only at h
    split at h <;> (simp only [Option.some.injEq, Prod.mk.injEq] at h; obtain ⟨-, rfl⟩ := h; simp)
  · simp at h

@[simp] theorem State.fillTail_frame (s : State) (j : JobSlot) (x : IntakeSlot) (bytes : List Byte) :
    (s.fillTail j x bytes).link = s.link ∧ (s.fillTail j x bytes).spool = s.spool ∧
    (s.fillTail j x bytes).jobs = s.jobs ∧ (s.fillTail j x bytes).binder = s.binder ∧
    (s.fillTail j x bytes).ports = s.ports ∧ (s.fillTail j x bytes).table = s.table ∧
    (s.fillTail j x bytes).locks = s.locks ∧ (s.fillTail j x bytes).meter = s.meter ∧
    (s.fillTail j x bytes).alerts = s.alerts ∧ (s.fillTail j x bytes).notices = s.notices ∧
    (s.fillTail j x bytes).control = s.control ∧ (s.fillTail j x bytes).pressOut = s.pressOut ∧
    (s.fillTail j x bytes).freeTick = s.freeTick ∧ (s.fillTail j x bytes).pending = s.pending := by
  unfold State.fillTail; (repeat' split) <;> simp

@[simp] theorem State.dataNewBlock_frame (s : State) (j : JobSlot) (x : IntakeSlot) (bytes : List Byte) :
    (s.dataNewBlock j x bytes).link = s.link ∧ (s.dataNewBlock j x bytes).spool.mem = s.spool.mem ∧
    (s.dataNewBlock j x bytes).spool.granted = s.spool.granted ∧
    (s.dataNewBlock j x bytes).spool.ranks = s.spool.ranks ∧ (s.dataNewBlock j x bytes).jobs.ended = s.jobs.ended ∧
    (s.dataNewBlock j x bytes).binder = s.binder ∧ (s.dataNewBlock j x bytes).ports = s.ports ∧
    (s.dataNewBlock j x bytes).table = s.table ∧ (s.dataNewBlock j x bytes).locks = s.locks ∧
    (s.dataNewBlock j x bytes).meter = s.meter ∧ (s.dataNewBlock j x bytes).alerts = s.alerts ∧
    (s.dataNewBlock j x bytes).notices = s.notices ∧ (s.dataNewBlock j x bytes).control = s.control ∧
    (s.dataNewBlock j x bytes).pressOut = s.pressOut ∧ (s.dataNewBlock j x bytes).freeTick = s.freeTick ∧
    (s.dataNewBlock j x bytes).pending = s.pending := by
  unfold State.dataNewBlock
  split
  · simp
  · next h => have := State.takeBlock_frame h; simp_all

@[simp] theorem State.dataInTail_frame (s : State) (j : JobSlot) (x : IntakeSlot) (bytes : List Byte) :
    (s.dataInTail j x bytes).link = s.link ∧ (s.dataInTail j x bytes).spool = s.spool ∧
    (s.dataInTail j x bytes).jobs = s.jobs ∧ (s.dataInTail j x bytes).binder = s.binder ∧
    (s.dataInTail j x bytes).ports = s.ports ∧ (s.dataInTail j x bytes).table = s.table ∧
    (s.dataInTail j x bytes).locks = s.locks ∧ (s.dataInTail j x bytes).meter = s.meter ∧
    (s.dataInTail j x bytes).alerts = s.alerts ∧ (s.dataInTail j x bytes).notices = s.notices ∧
    (s.dataInTail j x bytes).control = s.control ∧ (s.dataInTail j x bytes).pressOut = s.pressOut ∧
    (s.dataInTail j x bytes).freeTick = s.freeTick ∧ (s.dataInTail j x bytes).pending = s.pending := by
  unfold State.dataInTail; (repeat' split) <;> simp

@[simp] theorem State.takeData_frame (s : State) (j : JobSlot) (bytes : List Byte) :
    (s.takeData j bytes).link = s.link ∧ (s.takeData j bytes).spool.mem = s.spool.mem ∧
    (s.takeData j bytes).spool.granted = s.spool.granted ∧ (s.takeData j bytes).spool.ranks = s.spool.ranks ∧
    (s.takeData j bytes).binder.routes = s.binder.routes ∧ (s.takeData j bytes).table = s.table ∧
    (s.takeData j bytes).meter = s.meter ∧ (s.takeData j bytes).alerts = s.alerts ∧
    (s.takeData j bytes).notices = s.notices ∧ (s.takeData j bytes).control = s.control ∧
    (s.takeData j bytes).freeTick = s.freeTick ∧ (s.takeData j bytes).pending = s.pending := by
  unfold State.takeData; dsimp only; (repeat' split) <;> simp

@[simp] theorem State.applyMark_frame (s : State) (j : JobSlot) (first : Block) (s1 s2 : SideMode) (m : Media) :
    (s.applyMark j first s1 s2 m).link = s.link ∧ (s.applyMark j first s1 s2 m).intake = s.intake ∧
    (s.applyMark j first s1 s2 m).spool.pool = s.spool.pool ∧
    (s.applyMark j first s1 s2 m).spool.mem = s.spool.mem ∧
    (s.applyMark j first s1 s2 m).spool.granted = s.spool.granted ∧
    (s.applyMark j first s1 s2 m).spool.ranks = s.spool.ranks ∧
    (s.applyMark j first s1 s2 m).jobs.ended = s.jobs.ended ∧ (s.applyMark j first s1 s2 m).binder = s.binder ∧
    (s.applyMark j first s1 s2 m).table = s.table ∧ (s.applyMark j first s1 s2 m).locks = s.locks ∧
    (s.applyMark j first s1 s2 m).meter.rates = s.meter.rates ∧
    (s.applyMark j first s1 s2 m).meter.periodTimer = s.meter.periodTimer ∧
    (s.applyMark j first s1 s2 m).alerts = s.alerts ∧ (s.applyMark j first s1 s2 m).notices.mask = s.notices.mask ∧
    (s.applyMark j first s1 s2 m).notices.reports = s.notices.reports ∧
    (s.applyMark j first s1 s2 m).control = s.control ∧ (s.applyMark j first s1 s2 m).pending = s.pending := by
  simp [State.applyMark]

@[simp] theorem State.markSheet_frame (s : State) (j : JobSlot) (first : Block) (s1 s2 : SideMode) (m : Media) :
    (s.markSheet j first s1 s2 m).link = s.link ∧ (s.markSheet j first s1 s2 m).spool.pool = s.spool.pool ∧
    (s.markSheet j first s1 s2 m).spool.mem = s.spool.mem ∧
    (s.markSheet j first s1 s2 m).spool.granted = s.spool.granted ∧
    (s.markSheet j first s1 s2 m).spool.ranks = s.spool.ranks ∧
    (s.markSheet j first s1 s2 m).jobs.ended = s.jobs.ended ∧ (s.markSheet j first s1 s2 m).binder = s.binder ∧
    (s.markSheet j first s1 s2 m).table = s.table ∧ (s.markSheet j first s1 s2 m).locks = s.locks ∧
    (s.markSheet j first s1 s2 m).meter.rates = s.meter.rates ∧
    (s.markSheet j first s1 s2 m).meter.periodTimer = s.meter.periodTimer ∧
    (s.markSheet j first s1 s2 m).alerts = s.alerts ∧ (s.markSheet j first s1 s2 m).notices.mask = s.notices.mask ∧
    (s.markSheet j first s1 s2 m).notices.reports = s.notices.reports ∧
    (s.markSheet j first s1 s2 m).control = s.control ∧ (s.markSheet j first s1 s2 m).pending = s.pending := by
  unfold State.markSheet; dsimp only; (repeat' split) <;> simp

@[simp] theorem State.takeMark_frame (s : State) (j : JobSlot) (s1 s2 : SideMode) (m : Media) :
    (s.takeMark j s1 s2 m).link = s.link ∧ (s.takeMark j s1 s2 m).spool.mem = s.spool.mem ∧
    (s.takeMark j s1 s2 m).spool.granted = s.spool.granted ∧ (s.takeMark j s1 s2 m).spool.ranks = s.spool.ranks ∧
    (s.takeMark j s1 s2 m).jobs.ended = s.jobs.ended ∧ (s.takeMark j s1 s2 m).binder = s.binder ∧
    (s.takeMark j s1 s2 m).table = s.table ∧ (s.takeMark j s1 s2 m).locks = s.locks ∧
    (s.takeMark j s1 s2 m).meter.rates = s.meter.rates ∧
    (s.takeMark j s1 s2 m).meter.periodTimer = s.meter.periodTimer ∧ (s.takeMark j s1 s2 m).alerts = s.alerts ∧
    (s.takeMark j s1 s2 m).notices.mask = s.notices.mask ∧
    (s.takeMark j s1 s2 m).notices.reports = s.notices.reports ∧ (s.takeMark j s1 s2 m).control = s.control ∧
    (s.takeMark j s1 s2 m).pending = s.pending := by
  unfold State.takeMark
  split
  · simp
  · split
    · next h => have := State.takeBlock_frame h; simp_all
    · simp

@[simp] theorem State.finishClose_frame (s : State) (j : JobSlot) (waited : Bool) :
    (s.finishClose j waited).link = s.link ∧ (s.finishClose j waited).spool.links = s.spool.links ∧
    (s.finishClose j waited).spool.mem = s.spool.mem ∧ (s.finishClose j waited).spool.granted = s.spool.granted ∧
    (s.finishClose j waited).spool.ranks = s.spool.ranks ∧
    (s.finishClose j waited).binder.routes = s.binder.routes ∧ (s.finishClose j waited).table = s.table ∧
    (s.finishClose j waited).meter.rates = s.meter.rates ∧
    (s.finishClose j waited).meter.periodTimer = s.meter.periodTimer ∧ (s.finishClose j waited).alerts = s.alerts ∧
    (s.finishClose j waited).notices.mask = s.notices.mask ∧
    (s.finishClose j waited).notices.reports = s.notices.reports ∧ (s.finishClose j waited).control = s.control ∧
    (s.finishClose j waited).pending = s.pending := by
  simp [State.finishClose]

@[simp] theorem State.takeClose_frame (s : State) (j : JobSlot) (r : Job) :
    (s.takeClose j r).link = s.link ∧ (s.takeClose j r).spool.mem = s.spool.mem ∧
    (s.takeClose j r).spool.granted = s.spool.granted ∧ (s.takeClose j r).spool.ranks = s.spool.ranks ∧
    (s.takeClose j r).binder.routes = s.binder.routes ∧ (s.takeClose j r).table = s.table ∧
    (s.takeClose j r).meter.rates = s.meter.rates ∧ (s.takeClose j r).meter.periodTimer = s.meter.periodTimer ∧
    (s.takeClose j r).alerts = s.alerts ∧ (s.takeClose j r).notices.mask = s.notices.mask ∧
    (s.takeClose j r).notices.reports = s.notices.reports ∧ (s.takeClose j r).control = s.control ∧
    (s.takeClose j r).pending = s.pending := by
  unfold State.takeClose; dsimp only; (repeat' split) <;> simp

@[simp] theorem State.storeWrite_frame (s : State) (b off : Nat) (bytes : List Byte) (void : Bool) :
    (s.storeWrite b off bytes void).link = s.link ∧ (s.storeWrite b off bytes void).intake = s.intake ∧
    (s.storeWrite b off bytes void).spool.pool = s.spool.pool ∧
    (s.storeWrite b off bytes void).spool.ranks = s.spool.ranks ∧ (s.storeWrite b off bytes void).jobs = s.jobs ∧
    (s.storeWrite b off bytes void).binder = s.binder ∧ (s.storeWrite b off bytes void).ports = s.ports ∧
    (s.storeWrite b off bytes void).table = s.table ∧ (s.storeWrite b off bytes void).locks = s.locks ∧
    (s.storeWrite b off bytes void).meter = s.meter ∧ (s.storeWrite b off bytes void).alerts = s.alerts ∧
    (s.storeWrite b off bytes void).notices = s.notices ∧ (s.storeWrite b off bytes void).control = s.control ∧
    (s.storeWrite b off bytes void).pressOut = s.pressOut ∧ (s.storeWrite b off bytes void).freeTick = s.freeTick ∧
    (s.storeWrite b off bytes void).pending = s.pending := by
  unfold State.storeWrite; dsimp only; (repeat' split) <;> simp

@[simp] theorem State.applyMarks_frame (s : State) (ms : List (JobSlot × Block × SideMode × SideMode × Media)) :
    (s.applyMarks ms).link = s.link ∧ (s.applyMarks ms).intake = s.intake ∧
    (s.applyMarks ms).spool.pool = s.spool.pool ∧ (s.applyMarks ms).spool.mem = s.spool.mem ∧
    (s.applyMarks ms).spool.granted = s.spool.granted ∧ (s.applyMarks ms).spool.ranks = s.spool.ranks ∧
    (s.applyMarks ms).jobs.ended = s.jobs.ended ∧ (s.applyMarks ms).binder = s.binder ∧
    (s.applyMarks ms).table = s.table ∧ (s.applyMarks ms).locks = s.locks ∧
    (s.applyMarks ms).meter.rates = s.meter.rates ∧ (s.applyMarks ms).meter.periodTimer = s.meter.periodTimer ∧
    (s.applyMarks ms).alerts = s.alerts ∧ (s.applyMarks ms).notices.mask = s.notices.mask ∧
    (s.applyMarks ms).notices.reports = s.notices.reports ∧ (s.applyMarks ms).control = s.control ∧
    (s.applyMarks ms).pending = s.pending := by
  exact foldl_relates (fun a b : State =>
      b.link = a.link ∧ b.intake = a.intake ∧ b.spool.pool = a.spool.pool ∧ b.spool.mem = a.spool.mem ∧
      b.spool.granted = a.spool.granted ∧ b.spool.ranks = a.spool.ranks ∧ b.jobs.ended = a.jobs.ended ∧
      b.binder = a.binder ∧ b.table = a.table ∧ b.locks = a.locks ∧ b.meter.rates = a.meter.rates ∧
      b.meter.periodTimer = a.meter.periodTimer ∧ b.alerts = a.alerts ∧ b.notices.mask = a.notices.mask ∧
      b.notices.reports = a.notices.reports ∧ b.control = a.control ∧ b.pending = a.pending)
    (by simp) (by intro a b c h1 h2; simp_all) (fun s m => s.applyMark m.1 m.2.1 m.2.2.1 m.2.2.2.1 m.2.2.2.2) (by intro s x; simp) ms s

@[simp] theorem breakAll_frame (js : List JobSlot) (s : State) :
    (js.foldl State.breakAtLinkDown s).link = s.link ∧
    (js.foldl State.breakAtLinkDown s).spool.links = s.spool.links ∧
    (js.foldl State.breakAtLinkDown s).spool.mem = s.spool.mem ∧
    (js.foldl State.breakAtLinkDown s).spool.granted = s.spool.granted ∧
    (js.foldl State.breakAtLinkDown s).spool.ranks = s.spool.ranks ∧
    (js.foldl State.breakAtLinkDown s).binder.routes = s.binder.routes ∧
    (js.foldl State.breakAtLinkDown s).table = s.table ∧ (js.foldl State.breakAtLinkDown s).meter = s.meter ∧
    (js.foldl State.breakAtLinkDown s).alerts = s.alerts ∧ (js.foldl State.breakAtLinkDown s).notices = s.notices ∧
    (js.foldl State.breakAtLinkDown s).control = s.control ∧
    (js.foldl State.breakAtLinkDown s).freeTick = s.freeTick ∧
    (js.foldl State.breakAtLinkDown s).pending = s.pending := by
  exact foldl_relates (fun a b : State =>
      b.link = a.link ∧ b.spool.links = a.spool.links ∧ b.spool.mem = a.spool.mem ∧
      b.spool.granted = a.spool.granted ∧ b.spool.ranks = a.spool.ranks ∧ b.binder.routes = a.binder.routes ∧
      b.table = a.table ∧ b.meter = a.meter ∧ b.alerts = a.alerts ∧ b.notices = a.notices ∧ b.control = a.control ∧
      b.freeTick = a.freeTick ∧ b.pending = a.pending)
    (by simp) (by intro a b c h1 h2; simp_all) State.breakAtLinkDown (by intro s x; simp) js s

end Sys2Proof.Machine
end

