-- ==== Sys2Proof/Laws/FramesPort.lean ====
section
/-! SUPPORT. What each operation of the port state machine and of the port requests leaves unchanged. -/

namespace Sys2Proof.Machine

@[simp] theorem State.enterService_frame (s : State) (p : Port) (state : PortState) (restDepth : Option RestMode) :
    (s.enterService p state restDepth).link = s.link ∧ (s.enterService p state restDepth).intake = s.intake ∧
    (s.enterService p state restDepth).spool = s.spool ∧ (s.enterService p state restDepth).jobs = s.jobs ∧
    (s.enterService p state restDepth).binder = s.binder ∧ (s.enterService p state restDepth).table = s.table ∧
    (s.enterService p state restDepth).locks = s.locks ∧ (s.enterService p state restDepth).meter = s.meter ∧
    (s.enterService p state restDepth).notices = s.notices ∧
    (s.enterService p state restDepth).control = s.control ∧
    (s.enterService p state restDepth).pressOut = s.pressOut ∧
    (s.enterService p state restDepth).freeTick = s.freeTick ∧
    (s.enterService p state restDepth).pending = s.pending := by
  simp [State.enterService]

@[simp] theorem State.enterFaulted_frame (s : State) (p : Port) :
    (s.enterFaulted p).link = s.link ∧ (s.enterFaulted p).intake = s.intake ∧ (s.enterFaulted p).spool = s.spool ∧
    (s.enterFaulted p).jobs = s.jobs ∧ (s.enterFaulted p).binder = s.binder ∧ (s.enterFaulted p).table = s.table ∧
    (s.enterFaulted p).locks = s.locks ∧ (s.enterFaulted p).meter = s.meter ∧
    (s.enterFaulted p).alerts = s.alerts ∧ (s.enterFaulted p).notices = s.notices ∧
    (s.enterFaulted p).control = s.control ∧ (s.enterFaulted p).pressOut = s.pressOut ∧
    (s.enterFaulted p).freeTick = s.freeTick ∧ (s.enterFaulted p).pending = s.pending := by
  simp [State.enterFaulted]

@[simp] theorem State.displace_frame (s : State) (p : Port) :
    (s.displace p).link = s.link ∧ (s.displace p).spool.links = s.spool.links ∧
    (s.displace p).spool.mem = s.spool.mem ∧ (s.displace p).spool.granted = s.spool.granted ∧
    (s.displace p).spool.ranks = s.spool.ranks ∧ (s.displace p).binder.routes = s.binder.routes ∧
    (s.displace p).ports = s.ports ∧ (s.displace p).table = s.table ∧ (s.displace p).meter = s.meter ∧
    (s.displace p).alerts = s.alerts ∧ (s.displace p).notices = s.notices ∧ (s.displace p).control = s.control ∧
    (s.displace p).pressOut = s.pressOut ∧ (s.displace p).freeTick = s.freeTick ∧
    (s.displace p).pending = s.pending := by
  unfold State.displace; dsimp only; (repeat' split) <;> simp

/-- A port without a claim and with an empty queue displaces nothing, and starts no re-examination (R68, R70). -/
theorem State.displace_of_empty {s : State} {p : Port} (hc : s.claim p = none) (hq : s.queue p = []) :
    s.displace p = s := by
  simp [State.displace, State.releaseClaim, hc, hq]

@[simp] theorem State.enterAbsent_frame (s : State) (p : Port) :
    (s.enterAbsent p).link = s.link ∧ (s.enterAbsent p).spool.links = s.spool.links ∧
    (s.enterAbsent p).spool.mem = s.spool.mem ∧ (s.enterAbsent p).spool.granted = s.spool.granted ∧
    (s.enterAbsent p).spool.ranks = s.spool.ranks ∧ (s.enterAbsent p).binder.routes = s.binder.routes ∧
    (s.enterAbsent p).table = s.table ∧ (s.enterAbsent p).meter = s.meter ∧ (s.enterAbsent p).alerts = s.alerts ∧
    (s.enterAbsent p).notices = s.notices ∧ (s.enterAbsent p).control = s.control ∧
    (s.enterAbsent p).pressOut = s.pressOut ∧ (s.enterAbsent p).freeTick = s.freeTick ∧
    (s.enterAbsent p).pending = s.pending := by
  simp [State.enterAbsent]

@[simp] theorem State.enterOffline_frame (s : State) (p : Port) :
    (s.enterOffline p).link = s.link ∧ (s.enterOffline p).spool.links = s.spool.links ∧
    (s.enterOffline p).spool.mem = s.spool.mem ∧ (s.enterOffline p).spool.granted = s.spool.granted ∧
    (s.enterOffline p).spool.ranks = s.spool.ranks ∧ (s.enterOffline p).binder.routes = s.binder.routes ∧
    (s.enterOffline p).table = s.table ∧ (s.enterOffline p).meter = s.meter ∧
    (s.enterOffline p).alerts = s.alerts ∧ (s.enterOffline p).notices = s.notices ∧
    (s.enterOffline p).control = s.control ∧ (s.enterOffline p).pressOut = s.pressOut ∧
    (s.enterOffline p).freeTick = s.freeTick ∧ (s.enterOffline p).pending = s.pending := by
  simp [State.enterOffline]

@[simp] theorem State.startProbe_frame (s : State) (p : Port) :
    (s.startProbe p).link = s.link ∧ (s.startProbe p).intake = s.intake ∧ (s.startProbe p).spool = s.spool ∧
    (s.startProbe p).jobs = s.jobs ∧ (s.startProbe p).binder = s.binder ∧ (s.startProbe p).table = s.table ∧
    (s.startProbe p).locks = s.locks ∧ (s.startProbe p).meter = s.meter ∧ (s.startProbe p).alerts = s.alerts ∧
    (s.startProbe p).notices = s.notices ∧ (s.startProbe p).control = s.control ∧
    (s.startProbe p).freeTick = s.freeTick ∧ (s.startProbe p).pending = s.pending := by
  simp [State.startProbe]

@[simp] theorem State.noAnswer_frame (s : State) (p : Port) :
    (s.noAnswer p).link = s.link ∧ (s.noAnswer p).spool.links = s.spool.links ∧
    (s.noAnswer p).spool.mem = s.spool.mem ∧ (s.noAnswer p).spool.granted = s.spool.granted ∧
    (s.noAnswer p).spool.ranks = s.spool.ranks ∧ (s.noAnswer p).binder.routes = s.binder.routes ∧
    (s.noAnswer p).table = s.table ∧ (s.noAnswer p).meter.rates = s.meter.rates ∧
    (s.noAnswer p).meter.periodTimer = s.meter.periodTimer ∧ (s.noAnswer p).notices.mask = s.notices.mask ∧
    (s.noAnswer p).notices.reports = s.notices.reports ∧ (s.noAnswer p).control = s.control ∧
    (s.noAnswer p).pressOut = s.pressOut ∧ (s.noAnswer p).freeTick = s.freeTick ∧
    (s.noAnswer p).pending = s.pending := by
  unfold State.noAnswer; dsimp only; (repeat' split) <;> simp

@[simp] theorem State.takeIdentity_frame (s : State) (p : Port) (i : Identity) (resting : Bool) :
    (s.takeIdentity p i resting).link = s.link ∧ (s.takeIdentity p i resting).intake = s.intake ∧
    (s.takeIdentity p i resting).spool = s.spool ∧ (s.takeIdentity p i resting).jobs.ended = s.jobs.ended ∧
    (s.takeIdentity p i resting).binder.routes = s.binder.routes ∧
    (s.takeIdentity p i resting).binder.claims = s.binder.claims ∧ (s.takeIdentity p i resting).table = s.table ∧
    (s.takeIdentity p i resting).locks = s.locks ∧ (s.takeIdentity p i resting).meter = s.meter ∧
    (s.takeIdentity p i resting).notices = s.notices ∧ (s.takeIdentity p i resting).control = s.control ∧
    (s.takeIdentity p i resting).pressOut = s.pressOut ∧ (s.takeIdentity p i resting).freeTick = s.freeTick ∧
    (s.takeIdentity p i resting).pending = s.pending := by
  unfold State.takeIdentity; dsimp only; (repeat' split) <;> simp

@[simp] theorem State.takeSense_frame (s : State) (p : Port) (ready resting : Bool) (c : Condition) :
    (s.takeSense p ready resting c).link = s.link ∧ (s.takeSense p ready resting c).intake = s.intake ∧
    (s.takeSense p ready resting c).spool = s.spool ∧ (s.takeSense p ready resting c).jobs = s.jobs ∧
    (s.takeSense p ready resting c).binder = s.binder ∧ (s.takeSense p ready resting c).table = s.table ∧
    (s.takeSense p ready resting c).locks = s.locks ∧ (s.takeSense p ready resting c).meter = s.meter ∧
    (s.takeSense p ready resting c).notices = s.notices ∧ (s.takeSense p ready resting c).control = s.control ∧
    (s.takeSense p ready resting c).pressOut = s.pressOut ∧ (s.takeSense p ready resting c).freeTick = s.freeTick ∧
    (s.takeSense p ready resting c).pending = s.pending := by
  unfold State.takeSense; dsimp only; (repeat' split) <;> simp

@[simp] theorem State.beginExecution_frame (s : State) (p : Port) :
    (s.beginExecution p).link = s.link ∧ (s.beginExecution p).intake = s.intake ∧
    (s.beginExecution p).spool = s.spool ∧ (s.beginExecution p).jobs.ended = s.jobs.ended ∧
    (s.beginExecution p).binder = s.binder ∧ (s.beginExecution p).table = s.table ∧
    (s.beginExecution p).locks = s.locks ∧ (s.beginExecution p).meter.rates = s.meter.rates ∧
    (s.beginExecution p).meter.periodTimer = s.meter.periodTimer ∧ (s.beginExecution p).alerts = s.alerts ∧
    (s.beginExecution p).notices.mask = s.notices.mask ∧ (s.beginExecution p).notices.reports = s.notices.reports ∧
    (s.beginExecution p).control = s.control ∧ (s.beginExecution p).pending = s.pending := by
  unfold State.beginExecution; dsimp only; (repeat' split) <;> simp

@[simp] theorem State.refuseRun_frame (s : State) (p : Port) :
    (s.refuseRun p).link = s.link ∧ (s.refuseRun p).spool.links = s.spool.links ∧
    (s.refuseRun p).spool.mem = s.spool.mem ∧ (s.refuseRun p).spool.granted = s.spool.granted ∧
    (s.refuseRun p).spool.ranks = s.spool.ranks ∧ (s.refuseRun p).binder.routes = s.binder.routes ∧
    (s.refuseRun p).table = s.table ∧ (s.refuseRun p).meter.rates = s.meter.rates ∧
    (s.refuseRun p).meter.periodTimer = s.meter.periodTimer ∧ (s.refuseRun p).notices.mask = s.notices.mask ∧
    (s.refuseRun p).notices.reports = s.notices.reports ∧ (s.refuseRun p).control = s.control ∧
    (s.refuseRun p).pressOut = s.pressOut ∧ (s.refuseRun p).freeTick = s.freeTick ∧
    (s.refuseRun p).pending = s.pending := by
  unfold State.refuseRun; dsimp only; (repeat' split) <;> simp

@[simp] theorem State.exitEntry_frame (s : State) (p : Port) (e : InFlight) (d : Disposition) :
    (s.exitEntry p e d).link = s.link ∧ (s.exitEntry p e d).intake = s.intake ∧
    (s.exitEntry p e d).spool.links = s.spool.links ∧ (s.exitEntry p e d).spool.mem = s.spool.mem ∧
    (s.exitEntry p e d).spool.granted = s.spool.granted ∧ (s.exitEntry p e d).spool.ranks = s.spool.ranks ∧
    (s.exitEntry p e d).jobs.ended = s.jobs.ended ∧ (s.exitEntry p e d).binder = s.binder ∧
    (s.exitEntry p e d).table = s.table ∧ (s.exitEntry p e d).locks = s.locks ∧
    (s.exitEntry p e d).meter.rates = s.meter.rates ∧ (s.exitEntry p e d).meter.periodTimer = s.meter.periodTimer ∧
    (s.exitEntry p e d).alerts = s.alerts ∧ (s.exitEntry p e d).notices.mask = s.notices.mask ∧
    (s.exitEntry p e d).notices.reports = s.notices.reports ∧ (s.exitEntry p e d).control = s.control ∧
    (s.exitEntry p e d).freeTick = s.freeTick ∧ (s.exitEntry p e d).pending = s.pending := by
  unfold State.exitEntry; dsimp only; (repeat' split) <;> simp

@[simp] theorem spoilExits_frame (p : Port) (es : List InFlight) (s : State) :
    (es.foldl (fun s x => s.exitEntry p x .spoiled) s).link = s.link ∧
    (es.foldl (fun s x => s.exitEntry p x .spoiled) s).intake = s.intake ∧
    (es.foldl (fun s x => s.exitEntry p x .spoiled) s).spool.links = s.spool.links ∧
    (es.foldl (fun s x => s.exitEntry p x .spoiled) s).spool.mem = s.spool.mem ∧
    (es.foldl (fun s x => s.exitEntry p x .spoiled) s).spool.granted = s.spool.granted ∧
    (es.foldl (fun s x => s.exitEntry p x .spoiled) s).spool.ranks = s.spool.ranks ∧
    (es.foldl (fun s x => s.exitEntry p x .spoiled) s).jobs.ended = s.jobs.ended ∧
    (es.foldl (fun s x => s.exitEntry p x .spoiled) s).binder = s.binder ∧
    (es.foldl (fun s x => s.exitEntry p x .spoiled) s).table = s.table ∧
    (es.foldl (fun s x => s.exitEntry p x .spoiled) s).locks = s.locks ∧
    (es.foldl (fun s x => s.exitEntry p x .spoiled) s).meter.rates = s.meter.rates ∧
    (es.foldl (fun s x => s.exitEntry p x .spoiled) s).meter.periodTimer = s.meter.periodTimer ∧
    (es.foldl (fun s x => s.exitEntry p x .spoiled) s).alerts = s.alerts ∧
    (es.foldl (fun s x => s.exitEntry p x .spoiled) s).notices.mask = s.notices.mask ∧
    (es.foldl (fun s x => s.exitEntry p x .spoiled) s).notices.reports = s.notices.reports ∧
    (es.foldl (fun s x => s.exitEntry p x .spoiled) s).control = s.control ∧
    (es.foldl (fun s x => s.exitEntry p x .spoiled) s).freeTick = s.freeTick ∧
    (es.foldl (fun s x => s.exitEntry p x .spoiled) s).pending = s.pending := by
  exact foldl_relates (fun a b : State =>
      b.link = a.link ∧ b.intake = a.intake ∧ b.spool.links = a.spool.links ∧ b.spool.mem = a.spool.mem ∧
      b.spool.granted = a.spool.granted ∧ b.spool.ranks = a.spool.ranks ∧ b.jobs.ended = a.jobs.ended ∧
      b.binder = a.binder ∧ b.table = a.table ∧ b.locks = a.locks ∧ b.meter.rates = a.meter.rates ∧
      b.meter.periodTimer = a.meter.periodTimer ∧ b.alerts = a.alerts ∧ b.notices.mask = a.notices.mask ∧
      b.notices.reports = a.notices.reports ∧ b.control = a.control ∧ b.freeTick = a.freeTick ∧
      b.pending = a.pending)
    (by simp) (by intro a b c h1 h2; simp_all) (fun s x => s.exitEntry p x .spoiled) (by intro s x; simp) es s

@[simp] theorem catchUpAll_frame (p : Port) (es : List InFlight) (s : State) :
    (es.foldl (fun s e => s.resolveGood p e) s).link = s.link ∧
    (es.foldl (fun s e => s.resolveGood p e) s).intake = s.intake ∧
    (es.foldl (fun s e => s.resolveGood p e) s).spool.links = s.spool.links ∧
    (es.foldl (fun s e => s.resolveGood p e) s).spool.mem = s.spool.mem ∧
    (es.foldl (fun s e => s.resolveGood p e) s).spool.granted = s.spool.granted ∧
    (es.foldl (fun s e => s.resolveGood p e) s).spool.ranks = s.spool.ranks ∧
    (es.foldl (fun s e => s.resolveGood p e) s).jobs.ended = s.jobs.ended ∧
    (es.foldl (fun s e => s.resolveGood p e) s).binder = s.binder ∧
    (es.foldl (fun s e => s.resolveGood p e) s).table = s.table ∧
    (es.foldl (fun s e => s.resolveGood p e) s).locks = s.locks ∧
    (es.foldl (fun s e => s.resolveGood p e) s).meter.rates = s.meter.rates ∧
    (es.foldl (fun s e => s.resolveGood p e) s).meter.periodTimer = s.meter.periodTimer ∧
    (es.foldl (fun s e => s.resolveGood p e) s).alerts = s.alerts ∧
    (es.foldl (fun s e => s.resolveGood p e) s).notices = s.notices ∧
    (es.foldl (fun s e => s.resolveGood p e) s).control = s.control ∧
    (es.foldl (fun s e => s.resolveGood p e) s).pressOut = s.pressOut ∧
    (es.foldl (fun s e => s.resolveGood p e) s).freeTick = s.freeTick ∧
    (es.foldl (fun s e => s.resolveGood p e) s).pending = s.pending := by
  exact foldl_relates (fun a b : State =>
      b.link = a.link ∧ b.intake = a.intake ∧ b.spool.links = a.spool.links ∧ b.spool.mem = a.spool.mem ∧
      b.spool.granted = a.spool.granted ∧ b.spool.ranks = a.spool.ranks ∧ b.jobs.ended = a.jobs.ended ∧
      b.binder = a.binder ∧ b.table = a.table ∧ b.locks = a.locks ∧ b.meter.rates = a.meter.rates ∧
      b.meter.periodTimer = a.meter.periodTimer ∧ b.alerts = a.alerts ∧ b.notices = a.notices ∧
      b.control = a.control ∧ b.pressOut = a.pressOut ∧ b.freeTick = a.freeTick ∧ b.pending = a.pending)
    (by simp) (by intro a b c h1 h2; simp_all) (fun s e => s.resolveGood p e) (by intro s x; simp) es s

@[simp] theorem State.exitAt_frame (s : State) (p : Port) (older : List InFlight) (e : InFlight) (d : Disposition) :
    (s.exitAt p older e d).link = s.link ∧ (s.exitAt p older e d).intake = s.intake ∧
    (s.exitAt p older e d).spool.links = s.spool.links ∧ (s.exitAt p older e d).spool.mem = s.spool.mem ∧
    (s.exitAt p older e d).spool.granted = s.spool.granted ∧ (s.exitAt p older e d).spool.ranks = s.spool.ranks ∧
    (s.exitAt p older e d).jobs.ended = s.jobs.ended ∧ (s.exitAt p older e d).binder = s.binder ∧
    (s.exitAt p older e d).table = s.table ∧ (s.exitAt p older e d).locks = s.locks ∧
    (s.exitAt p older e d).meter.rates = s.meter.rates ∧
    (s.exitAt p older e d).meter.periodTimer = s.meter.periodTimer ∧ (s.exitAt p older e d).alerts = s.alerts ∧
    (s.exitAt p older e d).notices.mask = s.notices.mask ∧
    (s.exitAt p older e d).notices.reports = s.notices.reports ∧ (s.exitAt p older e d).control = s.control ∧
    (s.exitAt p older e d).freeTick = s.freeTick ∧ (s.exitAt p older e d).pending = s.pending := by
  simp [State.exitAt]

@[simp] theorem State.catchUp_frame (s : State) (p : Port) (good : Nat) :
    (s.catchUp p good).link = s.link ∧ (s.catchUp p good).intake = s.intake ∧
    (s.catchUp p good).spool.links = s.spool.links ∧ (s.catchUp p good).spool.mem = s.spool.mem ∧
    (s.catchUp p good).spool.granted = s.spool.granted ∧ (s.catchUp p good).spool.ranks = s.spool.ranks ∧
    (s.catchUp p good).jobs.ended = s.jobs.ended ∧ (s.catchUp p good).binder = s.binder ∧
    (s.catchUp p good).table = s.table ∧ (s.catchUp p good).locks = s.locks ∧
    (s.catchUp p good).meter.rates = s.meter.rates ∧ (s.catchUp p good).meter.periodTimer = s.meter.periodTimer ∧
    (s.catchUp p good).notices = s.notices ∧ (s.catchUp p good).control = s.control ∧
    (s.catchUp p good).pressOut = s.pressOut ∧ (s.catchUp p good).freeTick = s.freeTick ∧
    (s.catchUp p good).pending = s.pending := by
  unfold State.catchUp; (repeat' split) <;> simp

@[simp] theorem State.takeResult_frame (s : State) (p : Port) (cls : ResultClass) (c : Condition) (good : Nat) (last : Option Byte) :
    (s.takeResult p cls c good last).link = s.link ∧ (s.takeResult p cls c good last).spool.links = s.spool.links ∧
    (s.takeResult p cls c good last).spool.mem = s.spool.mem ∧
    (s.takeResult p cls c good last).spool.granted = s.spool.granted ∧
    (s.takeResult p cls c good last).spool.ranks = s.spool.ranks ∧
    (s.takeResult p cls c good last).binder.routes = s.binder.routes ∧
    (s.takeResult p cls c good last).table = s.table ∧
    (s.takeResult p cls c good last).meter.rates = s.meter.rates ∧
    (s.takeResult p cls c good last).meter.periodTimer = s.meter.periodTimer ∧
    (s.takeResult p cls c good last).notices.mask = s.notices.mask ∧
    (s.takeResult p cls c good last).notices.reports = s.notices.reports ∧
    (s.takeResult p cls c good last).control = s.control ∧ (s.takeResult p cls c good last).pressOut = s.pressOut ∧
    (s.takeResult p cls c good last).freeTick = s.freeTick ∧ (s.takeResult p cls c good last).pending = s.pending := by
  unfold State.takeResult; dsimp only; (repeat' split) <;> simp

@[simp] theorem State.faultNow_frame (s : State) (p : Port) (a : AlertKind × Option JamLocation) :
    (s.faultNow p a).link = s.link ∧ (s.faultNow p a).intake = s.intake ∧ (s.faultNow p a).spool = s.spool ∧
    (s.faultNow p a).jobs = s.jobs ∧ (s.faultNow p a).binder = s.binder ∧ (s.faultNow p a).table = s.table ∧
    (s.faultNow p a).locks = s.locks ∧ (s.faultNow p a).meter = s.meter ∧ (s.faultNow p a).notices = s.notices ∧
    (s.faultNow p a).control = s.control ∧ (s.faultNow p a).pressOut = s.pressOut ∧
    (s.faultNow p a).freeTick = s.freeTick ∧ (s.faultNow p a).pending = s.pending := by
  simp [State.faultNow]

@[simp] theorem State.readyReport_frame (s : State) (p : Port) (ready : Bool) (c : Condition) :
    (s.readyReport p ready c).link = s.link ∧ (s.readyReport p ready c).intake = s.intake ∧
    (s.readyReport p ready c).spool = s.spool ∧ (s.readyReport p ready c).jobs = s.jobs ∧
    (s.readyReport p ready c).binder = s.binder ∧ (s.readyReport p ready c).table = s.table ∧
    (s.readyReport p ready c).locks = s.locks ∧ (s.readyReport p ready c).meter = s.meter ∧
    (s.readyReport p ready c).notices = s.notices ∧ (s.readyReport p ready c).control = s.control ∧
    (s.readyReport p ready c).pressOut = s.pressOut ∧ (s.readyReport p ready c).freeTick = s.freeTick ∧
    (s.readyReport p ready c).pending = s.pending := by
  unfold State.readyReport; (repeat' split) <;> simp

@[simp] theorem State.foldPeriod_frame (s : State) (a : Account) :
    (s.foldPeriod a).link = s.link ∧ (s.foldPeriod a).intake = s.intake ∧ (s.foldPeriod a).spool = s.spool ∧
    (s.foldPeriod a).jobs = s.jobs ∧ (s.foldPeriod a).binder = s.binder ∧ (s.foldPeriod a).ports = s.ports ∧
    (s.foldPeriod a).table = s.table ∧ (s.foldPeriod a).locks = s.locks ∧
    (s.foldPeriod a).meter.rates = s.meter.rates ∧ (s.foldPeriod a).meter.periodTimer = s.meter.periodTimer ∧
    (s.foldPeriod a).alerts = s.alerts ∧ (s.foldPeriod a).notices.mask = s.notices.mask ∧
    (s.foldPeriod a).notices.events = s.notices.events ∧ (s.foldPeriod a).control = s.control ∧
    (s.foldPeriod a).pressOut = s.pressOut ∧ (s.foldPeriod a).freeTick = s.freeTick ∧
    (s.foldPeriod a).pending = s.pending := by
  unfold State.foldPeriod; dsimp only; (repeat' split) <;> simp

@[simp] theorem foldPeriods_frame (as : List Account) (s : State) :
    (as.foldl State.foldPeriod s).link = s.link ∧ (as.foldl State.foldPeriod s).intake = s.intake ∧
    (as.foldl State.foldPeriod s).spool = s.spool ∧ (as.foldl State.foldPeriod s).jobs = s.jobs ∧
    (as.foldl State.foldPeriod s).binder = s.binder ∧ (as.foldl State.foldPeriod s).ports = s.ports ∧
    (as.foldl State.foldPeriod s).table = s.table ∧ (as.foldl State.foldPeriod s).locks = s.locks ∧
    (as.foldl State.foldPeriod s).meter.rates = s.meter.rates ∧
    (as.foldl State.foldPeriod s).meter.periodTimer = s.meter.periodTimer ∧
    (as.foldl State.foldPeriod s).alerts = s.alerts ∧ (as.foldl State.foldPeriod s).notices.mask = s.notices.mask ∧
    (as.foldl State.foldPeriod s).notices.events = s.notices.events ∧
    (as.foldl State.foldPeriod s).control = s.control ∧ (as.foldl State.foldPeriod s).pressOut = s.pressOut ∧
    (as.foldl State.foldPeriod s).freeTick = s.freeTick ∧ (as.foldl State.foldPeriod s).pending = s.pending := by
  exact foldl_relates (fun a b : State =>
      b.link = a.link ∧ b.intake = a.intake ∧ b.spool = a.spool ∧ b.jobs = a.jobs ∧ b.binder = a.binder ∧
      b.ports = a.ports ∧ b.table = a.table ∧ b.locks = a.locks ∧ b.meter.rates = a.meter.rates ∧
      b.meter.periodTimer = a.meter.periodTimer ∧ b.alerts = a.alerts ∧ b.notices.mask = a.notices.mask ∧
      b.notices.events = a.notices.events ∧ b.control = a.control ∧ b.pressOut = a.pressOut ∧
      b.freeTick = a.freeTick ∧ b.pending = a.pending)
    (by simp) (by intro a b c h1 h2; simp_all) State.foldPeriod (by intro s x; simp) as s

@[simp] theorem State.moveJob_frame (s : State) (j : JobSlot) (p : Port) :
    (s.moveJob j p).link = s.link ∧ (s.moveJob j p).intake = s.intake ∧ (s.moveJob j p).spool = s.spool ∧
    (s.moveJob j p).jobs.ended = s.jobs.ended ∧ (s.moveJob j p).binder.routes = s.binder.routes ∧
    (s.moveJob j p).binder.claims = s.binder.claims ∧ (s.moveJob j p).ports = s.ports ∧
    (s.moveJob j p).table = s.table ∧ (s.moveJob j p).locks = s.locks ∧ (s.moveJob j p).meter = s.meter ∧
    (s.moveJob j p).alerts = s.alerts ∧ (s.moveJob j p).notices = s.notices ∧ (s.moveJob j p).control = s.control ∧
    (s.moveJob j p).pressOut = s.pressOut ∧ (s.moveJob j p).freeTick = s.freeTick ∧
    (s.moveJob j p).pending = s.pending := by
  unfold State.moveJob; dsimp only; (repeat' split) <;> simp

@[simp] theorem State.setPriority_frame (s : State) (j : JobSlot) (pri : Fin 4) :
    (s.setPriority j pri).link = s.link ∧ (s.setPriority j pri).intake = s.intake ∧
    (s.setPriority j pri).spool = s.spool ∧ (s.setPriority j pri).jobs.ended = s.jobs.ended ∧
    (s.setPriority j pri).binder.routes = s.binder.routes ∧
    (s.setPriority j pri).binder.unbound = s.binder.unbound ∧
    (s.setPriority j pri).binder.bindOrder = s.binder.bindOrder ∧
    (s.setPriority j pri).binder.claims = s.binder.claims ∧ (s.setPriority j pri).ports = s.ports ∧
    (s.setPriority j pri).table = s.table ∧ (s.setPriority j pri).locks = s.locks ∧
    (s.setPriority j pri).meter = s.meter ∧ (s.setPriority j pri).alerts = s.alerts ∧
    (s.setPriority j pri).notices = s.notices ∧ (s.setPriority j pri).control = s.control ∧
    (s.setPriority j pri).pressOut = s.pressOut ∧ (s.setPriority j pri).freeTick = s.freeTick ∧
    (s.setPriority j pri).pending = s.pending := by
  unfold State.setPriority; dsimp only; (repeat' split) <;> simp

@[simp] theorem purgeList_frame (js : List JobSlot) (s : State) :
    (js.foldl (fun s j => s.cancelJob j .purge) s).link = s.link ∧
    (js.foldl (fun s j => s.cancelJob j .purge) s).spool.links = s.spool.links ∧
    (js.foldl (fun s j => s.cancelJob j .purge) s).spool.mem = s.spool.mem ∧
    (js.foldl (fun s j => s.cancelJob j .purge) s).spool.granted = s.spool.granted ∧
    (js.foldl (fun s j => s.cancelJob j .purge) s).spool.ranks = s.spool.ranks ∧
    (js.foldl (fun s j => s.cancelJob j .purge) s).binder.routes = s.binder.routes ∧
    (js.foldl (fun s j => s.cancelJob j .purge) s).table = s.table ∧
    (js.foldl (fun s j => s.cancelJob j .purge) s).meter = s.meter ∧
    (js.foldl (fun s j => s.cancelJob j .purge) s).alerts = s.alerts ∧
    (js.foldl (fun s j => s.cancelJob j .purge) s).notices = s.notices ∧
    (js.foldl (fun s j => s.cancelJob j .purge) s).control = s.control ∧
    (js.foldl (fun s j => s.cancelJob j .purge) s).freeTick = s.freeTick ∧
    (js.foldl (fun s j => s.cancelJob j .purge) s).pending = s.pending := by
  exact foldl_relates (fun a b : State =>
      b.link = a.link ∧ b.spool.links = a.spool.links ∧ b.spool.mem = a.spool.mem ∧
      b.spool.granted = a.spool.granted ∧ b.spool.ranks = a.spool.ranks ∧ b.binder.routes = a.binder.routes ∧
      b.table = a.table ∧ b.meter = a.meter ∧ b.alerts = a.alerts ∧ b.notices = a.notices ∧ b.control = a.control ∧
      b.freeTick = a.freeTick ∧ b.pending = a.pending)
    (by simp) (by intro a b c h1 h2; simp_all) (fun s j => s.cancelJob j .purge) (by intro s x; simp) js s

@[simp] theorem State.purgeAll_frame (s : State) :
    (s.purgeAll).link = s.link ∧ (s.purgeAll).spool.links = s.spool.links ∧ (s.purgeAll).spool.mem = s.spool.mem ∧
    (s.purgeAll).spool.granted = s.spool.granted ∧ (s.purgeAll).spool.ranks = s.spool.ranks ∧
    (s.purgeAll).binder.routes = s.binder.routes ∧ (s.purgeAll).table = s.table ∧ (s.purgeAll).meter = s.meter ∧
    (s.purgeAll).alerts = s.alerts ∧ (s.purgeAll).notices = s.notices ∧ (s.purgeAll).control = s.control ∧
    (s.purgeAll).freeTick = s.freeTick ∧ (s.purgeAll).pending = s.pending := by
  simp [State.purgeAll]

@[simp] theorem State.dropFinishing_frame (s : State) (p : Port) :
    (s.dropFinishing p).link = s.link ∧ (s.dropFinishing p).intake = s.intake ∧
    (s.dropFinishing p).spool = s.spool ∧ (s.dropFinishing p).jobs.ended = s.jobs.ended ∧
    (s.dropFinishing p).binder.routes = s.binder.routes ∧ (s.dropFinishing p).binder.claims = s.binder.claims ∧
    (s.dropFinishing p).ports = s.ports ∧ (s.dropFinishing p).table = s.table ∧
    (s.dropFinishing p).locks = s.locks ∧ (s.dropFinishing p).meter = s.meter ∧
    (s.dropFinishing p).alerts = s.alerts ∧ (s.dropFinishing p).notices = s.notices ∧
    (s.dropFinishing p).control = s.control ∧ (s.dropFinishing p).pressOut = s.pressOut ∧
    (s.dropFinishing p).freeTick = s.freeTick ∧ (s.dropFinishing p).pending = s.pending := by
  unfold State.dropFinishing; (repeat' split) <;> simp

@[simp] theorem State.writeTable_frame (s : State) (p : Port) (w : TableWrite) :
    (s.writeTable p w).link = s.link ∧ (s.writeTable p w).intake = s.intake ∧ (s.writeTable p w).spool = s.spool ∧
    (s.writeTable p w).jobs.ended = s.jobs.ended ∧ (s.writeTable p w).binder.routes = s.binder.routes ∧
    (s.writeTable p w).binder.claims = s.binder.claims ∧ (s.writeTable p w).locks = s.locks ∧
    (s.writeTable p w).meter = s.meter ∧ (s.writeTable p w).alerts = s.alerts ∧
    (s.writeTable p w).notices = s.notices ∧ (s.writeTable p w).control = s.control ∧
    (s.writeTable p w).pressOut = s.pressOut ∧ (s.writeTable p w).freeTick = s.freeTick ∧
    (s.writeTable p w).pending = s.pending := by
  unfold State.writeTable; dsimp only; (repeat' split) <;> simp

@[simp] theorem State.withdrawPort_frame (s : State) (p : Port) :
    (s.withdrawPort p).link = s.link ∧ (s.withdrawPort p).spool.links = s.spool.links ∧
    (s.withdrawPort p).spool.mem = s.spool.mem ∧ (s.withdrawPort p).spool.granted = s.spool.granted ∧
    (s.withdrawPort p).spool.ranks = s.spool.ranks ∧ (s.withdrawPort p).binder.routes = s.binder.routes ∧
    (s.withdrawPort p).table = s.table ∧ (s.withdrawPort p).meter = s.meter ∧
    (s.withdrawPort p).alerts = s.alerts ∧ (s.withdrawPort p).notices = s.notices ∧
    (s.withdrawPort p).control = s.control ∧ (s.withdrawPort p).freeTick = s.freeTick ∧
    (s.withdrawPort p).pending = s.pending := by
  unfold State.withdrawPort; (repeat' split) <;> simp

@[simp] theorem State.restorePort_frame (s : State) (p : Port) :
    (s.restorePort p).link = s.link ∧ (s.restorePort p).intake = s.intake ∧ (s.restorePort p).spool = s.spool ∧
    (s.restorePort p).jobs = s.jobs ∧ (s.restorePort p).binder = s.binder ∧ (s.restorePort p).table = s.table ∧
    (s.restorePort p).locks = s.locks ∧ (s.restorePort p).meter = s.meter ∧ (s.restorePort p).alerts = s.alerts ∧
    (s.restorePort p).notices = s.notices ∧ (s.restorePort p).control = s.control ∧
    (s.restorePort p).freeTick = s.freeTick ∧ (s.restorePort p).pending = s.pending := by
  unfold State.restorePort; (repeat' split) <;> simp

@[simp] theorem State.resetPort_frame (s : State) (p : Port) :
    (s.resetPort p).link = s.link ∧ (s.resetPort p).spool.links = s.spool.links ∧
    (s.resetPort p).spool.mem = s.spool.mem ∧ (s.resetPort p).spool.granted = s.spool.granted ∧
    (s.resetPort p).spool.ranks = s.spool.ranks ∧ (s.resetPort p).binder.routes = s.binder.routes ∧
    (s.resetPort p).table = s.table ∧ (s.resetPort p).meter.rates = s.meter.rates ∧
    (s.resetPort p).meter.periodTimer = s.meter.periodTimer ∧ (s.resetPort p).alerts = s.alerts ∧
    (s.resetPort p).notices.mask = s.notices.mask ∧ (s.resetPort p).notices.reports = s.notices.reports ∧
    (s.resetPort p).control = s.control ∧ (s.resetPort p).freeTick = s.freeTick ∧
    (s.resetPort p).pending = s.pending := by
  unfold State.resetPort; dsimp only; (repeat' split) <;> simp

@[simp] theorem State.writeAccount_frame (s : State) (a : Account) (isOpen unlimited : Bool) (scale low : Nat) :
    (s.writeAccount a isOpen unlimited scale low).link = s.link ∧
    (s.writeAccount a isOpen unlimited scale low).intake = s.intake ∧
    (s.writeAccount a isOpen unlimited scale low).spool = s.spool ∧
    (s.writeAccount a isOpen unlimited scale low).jobs.ended = s.jobs.ended ∧
    (s.writeAccount a isOpen unlimited scale low).binder = s.binder ∧
    (s.writeAccount a isOpen unlimited scale low).ports = s.ports ∧
    (s.writeAccount a isOpen unlimited scale low).table = s.table ∧
    (s.writeAccount a isOpen unlimited scale low).locks = s.locks ∧
    (s.writeAccount a isOpen unlimited scale low).meter.rates = s.meter.rates ∧
    (s.writeAccount a isOpen unlimited scale low).meter.periodTimer = s.meter.periodTimer ∧
    (s.writeAccount a isOpen unlimited scale low).alerts = s.alerts ∧
    (s.writeAccount a isOpen unlimited scale low).notices.mask = s.notices.mask ∧
    (s.writeAccount a isOpen unlimited scale low).notices.reports = s.notices.reports ∧
    (s.writeAccount a isOpen unlimited scale low).control = s.control ∧
    (s.writeAccount a isOpen unlimited scale low).pressOut = s.pressOut ∧
    (s.writeAccount a isOpen unlimited scale low).freeTick = s.freeTick ∧
    (s.writeAccount a isOpen unlimited scale low).pending = s.pending := by
  simp [State.writeAccount]

@[simp] theorem State.setBalance_frame (s : State) (a : Account) (balance : Nat) :
    (s.setBalance a balance).link = s.link ∧ (s.setBalance a balance).intake = s.intake ∧
    (s.setBalance a balance).spool = s.spool ∧ (s.setBalance a balance).jobs.ended = s.jobs.ended ∧
    (s.setBalance a balance).binder = s.binder ∧ (s.setBalance a balance).ports = s.ports ∧
    (s.setBalance a balance).table = s.table ∧ (s.setBalance a balance).locks = s.locks ∧
    (s.setBalance a balance).meter.rates = s.meter.rates ∧
    (s.setBalance a balance).meter.periodTimer = s.meter.periodTimer ∧ (s.setBalance a balance).alerts = s.alerts ∧
    (s.setBalance a balance).notices.mask = s.notices.mask ∧
    (s.setBalance a balance).notices.reports = s.notices.reports ∧ (s.setBalance a balance).control = s.control ∧
    (s.setBalance a balance).pressOut = s.pressOut ∧ (s.setBalance a balance).freeTick = s.freeTick ∧
    (s.setBalance a balance).pending = s.pending := by
  unfold State.setBalance; dsimp only; (repeat' split) <;> simp

@[simp] theorem State.writeSettings_frame (s : State) (select : Byte) (v : Settings) :
    (s.writeSettings select v).link = s.link ∧ (s.writeSettings select v).intake = s.intake ∧
    (s.writeSettings select v).spool = s.spool ∧ (s.writeSettings select v).jobs = s.jobs ∧
    (s.writeSettings select v).binder = s.binder ∧ (s.writeSettings select v).ports = s.ports ∧
    (s.writeSettings select v).table = s.table ∧ (s.writeSettings select v).locks = s.locks ∧
    (s.writeSettings select v).meter.accounts = s.meter.accounts ∧
    (s.writeSettings select v).meter.rates = s.meter.rates ∧ (s.writeSettings select v).alerts = s.alerts ∧
    (s.writeSettings select v).notices = s.notices ∧ (s.writeSettings select v).pressOut = s.pressOut ∧
    (s.writeSettings select v).freeTick = s.freeTick ∧ (s.writeSettings select v).pending = s.pending := by
  unfold State.writeSettings; dsimp only; (repeat' split) <;> simp

end Sys2Proof.Machine
end

