-- ==== Sys2Proof/Laws/Memory.lean ====
section
/-! SUPPORT. The laws of spool memory and of the link records: what a read gives after a write, and that every memory
operation keeps the canonical form. -/

namespace Sys2Proof.Machine

/-- Storing bytes keeps memory's canonical form. -/
theorem memoryWf_storeBytes (bytes : List Byte) (a : Nat) {m : List Host.Cell} (h : memoryWf m = true) :
    memoryWf (storeBytes a bytes m) = true := by
  induction bytes generalizing a m with
  | nil => exact h
  | cons b bs ih => exact ih (a + 1) (swf_sput a b h)

/-- A byte outside the stored range reads as before. -/
theorem readByte_storeBytes_outside (bytes : List Byte) (a k : Nat) {m : List Host.Cell} (h : memoryWf m = true)
    (hk : k < a ∨ a + bytes.length ≤ k) : readByte (storeBytes a bytes m) k = readByte m k := by
  induction bytes generalizing a m with
  | nil => rfl
  | cons b bs ih =>
    rw [storeBytes, ih (a + 1) (swf_sput a b h) (by simp only [List.length_cons] at hk; omega), readByte,
      sget_sput a k b h]
    have : k ≠ a := by simp only [List.length_cons] at hk; omega
    simp [this, readByte]

/-- A byte inside the stored range reads as the byte stored there. -/
theorem readByte_storeBytes_inside (bytes : List Byte) (a k : Nat) {m : List Host.Cell} (h : memoryWf m = true)
    (hk : k < bytes.length) : readByte (storeBytes a bytes m) (a + k) = bytes[k] := by
  induction bytes generalizing a k m with
  | nil => simp at hk
  | cons b bs ih =>
    cases k with
    | zero =>
      rw [storeBytes, readByte_storeBytes_outside bs (a + 1) (a + 0) (swf_sput a b h) (by omega), readByte,
        sget_sput a (a + 0) b h]
      simp
    | succ k =>
      have := ih (a + 1) k (swf_sput a b h) (by simpa using hk)
      rw [storeBytes, show a + (k + 1) = a + 1 + k by omega, this]
      simp

/-- Memory right after a device reset of a fresh part has the canonical form. -/
theorem memoryWf_reset : memoryWf State.reset.spool.mem = true := rfl

/-- The link records after a device reset have the canonical form. -/
theorem linksWf_reset : swf ({} : LinkRec) State.reset.spool.links = true := rfl

/-- Writing a link record keeps the canonical form of the link records. -/
theorem State.linksWf_setBlockLink (s : State) (b : Block) (l : LinkRec)
    (h : swf ({} : LinkRec) s.spool.links = true) : swf ({} : LinkRec) (s.setBlockLink b l).spool.links = true :=
  swf_sput b l h

/-- Writing a link record leaves the bytes of spool memory as they stand. -/
@[simp] theorem State.setBlockLink_mem (s : State) (b : Block) (l : LinkRec) :
    (s.setBlockLink b l).spool.mem = s.spool.mem := rfl

/-- A link record reads as it was written, and every other one as before. -/
theorem State.blockLink_setBlockLink (s : State) (b b' : Block) (l : LinkRec)
    (h : swf ({} : LinkRec) s.spool.links = true) :
    (s.setBlockLink b l).blockLink b' = if b' = b then l else s.blockLink b' := sget_sput b b' l h

end Sys2Proof.Machine
end

