-- ==== Sys2Proof/Laws/Updates.lean ====
section
/-! SUPPORT. What each accessor of State reads after each named update of the record it reads. -/

namespace Sys2Proof.Machine

/-- The later of two writes of one entry stands. -/
@[simp] theorem tset_tset {α : Type} {n : Nat} (v : Vector α n) (i : Fin n) (x y : α) :
    tset (tset v i x) i y = tset v i y :=
  table_ext fun k => by simp only [tget_tset]; split <;> rfl

@[simp] theorem State.port_modPort (s : State) (p : Port) (f : PortRec → PortRec) :
    (s.modPort p f).port p = f (s.port p) := by simp [State.port, State.modPort]

theorem State.port_modPort_ne (s : State) {p q : Port} (f : PortRec → PortRec) (h : q ≠ p) :
    (s.modPort p f).port q = s.port q := tget_tset_ne _ _ h

@[simp] theorem State.modPort_modPort (s : State) (p : Port) (f g : PortRec → PortRec) :
    (s.modPort p f).modPort p g = s.modPort p fun r => g (f r) := by simp [State.modPort]

@[simp] theorem State.slot_modJob (s : State) (j : JobSlot) (f : Job → Job) :
    (s.modJob j f).slot j = (s.slot j).map f := by simp [State.slot, State.modJob]

theorem State.slot_modJob_ne (s : State) {j k : JobSlot} (f : Job → Job) (h : k ≠ j) :
    (s.modJob j f).slot k = s.slot k := tget_tset_ne _ _ h

@[simp] theorem State.account_modAccount (s : State) (a : Account) (f : AccountRec → AccountRec) :
    (s.modAccount a f).account a = f (s.account a) := by simp [State.account, State.modAccount]

theorem State.account_modAccount_ne (s : State) {a b : Account} (f : AccountRec → AccountRec) (h : b ≠ a) :
    (s.modAccount a f).account b = s.account b := tget_tset_ne _ _ h

@[simp] theorem State.alert_modAlert (s : State) (p : Port) (f : AlertRec → AlertRec) :
    (s.modAlert p f).alert p = f (s.alert p) := by simp [State.alert, State.modAlert]

theorem State.alert_modAlert_ne (s : State) {p q : Port} (f : AlertRec → AlertRec) (h : q ≠ p) :
    (s.modAlert p f).alert q = s.alert q := tget_tset_ne _ _ h

@[simp] theorem State.claim_setClaim (s : State) (p : Port) (c : Option JobSlot) : (s.setClaim p c).claim p = c := by
  simp [State.claim, State.setClaim]

theorem State.claim_setClaim_ne (s : State) {p q : Port} (c : Option JobSlot) (h : q ≠ p) :
    (s.setClaim p c).claim q = s.claim q := tget_tset_ne _ _ h

/-- A live job stands in its slot. -/
theorem State.slot_of_live {s : State} {j : JobSlot} {r : Job} (h : s.live j = some r) :
    s.slot j = some r ∧ r.outcome = none := by
  unfold State.live at h
  unfold State.slot
  split at h
  · next x hx =>
    split at h
    · next ho => cases h; exact ⟨hx, ho⟩
    · cases h
  · cases h

/-- A slot that holds a record without an outcome is live. -/
theorem State.live_of_slot {s : State} {j : JobSlot} {r : Job} (h : s.slot j = some r) (ho : r.outcome = none) :
    s.live j = some r := by
  unfold State.slot at h
  simp [State.live, h, ho]

end Sys2Proof.Machine
end

