-- ==== Sys2Proof/Laws/Queues.lean ====
section
/-! SUPPORT. What joining a run queue can do: a job enters at one place, and the jobs already there keep their order. -/

namespace Sys2Proof.Machine

/-- A slot enters behind every slot that it does not come before, up to the first that it comes before. -/
theorem insertBefore_splits (f : JobSlot → JobSlot → Bool) (j : JobSlot) (l : List JobSlot) :
    ∃ a b, l = a ++ b ∧ insertBefore f j l = a ++ j :: b ∧ (∀ k ∈ a, f j k = false)
      ∧ ∀ k, b.head? = some k → f j k = true := by
  induction l with
  | nil => exact ⟨[], [], rfl, rfl, by simp, by simp⟩
  | cons x rest ih =>
    by_cases h : f j x = true
    · exact ⟨[], x :: rest, rfl, by simp [insertBefore, h], by simp, by simpa using h⟩
    · obtain ⟨a, b, hl, hi, ha, hb⟩ := ih
      refine ⟨x :: a, b, by simp [hl], by simp [insertBefore, h, hi], ?_, hb⟩
      simpa [h] using ha

@[simp] theorem length_insertBefore (f : JobSlot → JobSlot → Bool) (j : JobSlot) (l : List JobSlot) :
    (insertBefore f j l).length = l.length + 1 := by
  obtain ⟨a, b, rfl, h, _⟩ := insertBefore_splits f j l
  simp [h]; omega

@[simp] theorem mem_insertBefore (f : JobSlot → JobSlot → Bool) (j k : JobSlot) (l : List JobSlot) :
    k ∈ insertBefore f j l ↔ k = j ∨ k ∈ l := by
  obtain ⟨a, b, rfl, h, _⟩ := insertBefore_splits f j l
  simp only [h, List.mem_append, List.mem_cons]
  tauto

@[simp] theorem State.queue_modQueue (s : State) (p : Port) (f : List JobSlot → List JobSlot) :
    (s.modQueue p f).queue p = f (s.queue p) := by simp [State.queue, State.modQueue]

theorem State.queue_modQueue_ne (s : State) {p q : Port} (f : List JobSlot → List JobSlot) (h : q ≠ p) :
    (s.modQueue p f).queue q = s.queue q := tget_tset_ne _ _ h

end Sys2Proof.Machine
end

