-- ==== Sys2Proof/Laws/Sends.lean ====
section
/-! SUPPORT. The sending of END and HALT: what each can do, said once, and the small lemmas of the words of Safety.lean that
the statements say it in. -/

namespace Sys2Proof.Machine

@[simp] theorem PortRec.ends_state (r : PortRec) : r.ends.state = .ending := rfl

@[simp] theorem PortRec.ends_endSent (r : PortRec) : r.ends.endSent = true := rfl

@[simp] theorem PortRec.ends_haltSent (r : PortRec) : r.ends.haltSent = r.haltSent := rfl

@[simp] theorem PortRec.ends_runOpen (r : PortRec) : r.ends.runOpen = r.runOpen := rfl

@[simp] theorem PortRec.ends_executing (r : PortRec) : r.ends.executing = r.executing := rfl

@[simp] theorem PortRec.ends_outstanding (r : PortRec) : r.ends.outstanding = r.outstanding := rfl

@[simp] theorem PortRec.ends_inFlight (r : PortRec) : r.ends.inFlight = r.inFlight := rfl

@[simp] theorem PortRec.resolved_state (r : PortRec) (tag : Byte) : (r.resolved tag).state = r.state := rfl

@[simp] theorem PortRec.resolved_runOpen (r : PortRec) (tag : Byte) : (r.resolved tag).runOpen = r.runOpen := rfl

@[simp] theorem PortRec.resolved_inFlight (r : PortRec) (tag : Byte) :
    (r.resolved tag).inFlight = r.inFlight.filter fun e => decide (e.tag ≠ tag) := rfl

@[simp] theorem State.port_sendsEnd (s : State) (p : Port) : (s.sendsEnd p).port p = (s.port p).ends := by
  simp [State.sendsEnd, State.port]

theorem State.port_sendsEnd_ne (s : State) {p q : Port} (h : q ≠ p) : (s.sendsEnd p).port q = s.port q :=
  tget_tset_ne _ _ h

/-- END: it is sent once, by a port in RUNNING whose run is in execution, and otherwise nothing happens (R104). -/
theorem State.sendEnd_eq (s : State) (p : Port) :
    s.sendEnd p = if (s.port p).state = .running ∧ (s.port p).executing = true ∧ (s.port p).endSent = false then
        s.sendsEnd p else s := by
  unfold State.sendEnd PortRec.feeding
  by_cases h1 : (s.port p).state = .running <;> by_cases h2 : (s.port p).executing = true <;>
    by_cases h3 : (s.port p).endSent = true <;> simp [h1, h2, h3] <;> rfl

/-- A port that may feed stands in RUNNING in execution, has room on its list, and its claimed job's cursor stands on a
sheet (R103). -/
theorem State.mayFeed_of {s : State} {p : Port} (h : s.mayFeed p = true) :
    (s.port p).feeding = true ∧ (s.port p).endSent = false ∧ (s.port p).inFlight.length < (s.port p).depth
      ∧ (s.port p).gapTimer = none ∧ ∃ r, s.claimedJob p = some r ∧ r.feed.next.isSome = true := by
  unfold State.mayFeed at h
  split at h
  · next r hr => simp at h; exact ⟨h.1.1.1.1, h.1.1.1.2, h.1.1.2, h.1.2, r, hr, h.2⟩
  · simp at h

end Sys2Proof.Machine
end

