-- ==== Sys2Proof/WellFormed.lean ====
section
/-! DEFINITION. Which commands are well formed. The types of the operands already hold every index in range, so
one check is left: a frame arrives when its last byte has been received (R28), so it has a byte. -/

namespace Sys2Proof

/-- Well-formedness of a command. -/
def wellFormed (i : Instr) : Bool :=
  match i with
  | .frameArrives bytes => !bytes.isEmpty
  | .deviceReset _ | .linkUp | .linkDown | .openFrame | .dataFrame | .markFrame | .closeFrame | .abandonFrame
  | .stallTimerExpiry | .writeCompletes | .fetchLands | .frameTransmitted | .shopClockTick
  | .jobQuery | .hold | .release | .cancel | .move | .priority | .purge
  | .routeWrite | .routeRead | .queueRead | .unboundRead
  | .portTableWrite | .portTableRead | .portQuery | .portOffline | .portOnline | .portProbe | .portReset
  | .pacingWrite | .pacingRead | .rankWrite | .rankRead
  | .finisherLock | .finisherUnlock | .finisherRead
  | .accountWrite | .accountCredit | .accountSetBalance | .accountRead | .rateWrite | .rateRead
  | .alertAck | .alertRead | .maskWrite | .maskRead
  | .stationWrite | .stationRead | .settingsWrite | .settingsRead | .setClock | .status | .clearStatus
  | .identityResult _ _ | .senseResult _ _ | .taken _ | .refuse _ | .demand _ | .feed _ _ | .exit _ _ _
  | .result _ _ | .readyChange _ _ _
  | .answerTimerExpiry _ | .endTimerExpiry _ | .standbyTimerExpiry _ | .warmTimerExpiry _
  | .warmLimitTimerExpiry _ | .senseRetryTimerExpiry _ | .faultPollTimerExpiry _ | .absentProbeTimerExpiry _
  | .transitTimerExpiry _ _ | .pacingGapTimerExpiry _ | .repeatTimerExpiry _ | .meterPeriodTimerExpiry
  | .unknownRequest => true

end Sys2Proof
end

