-- ==== Sys2Proof/Tests/Slice0.lean ====
section
/-! SUPPORT. Tests of the model: the worked examples of the spec, single commands on small states, and for each statement
with hypotheses a state that meets them. -/

namespace Sys2Proof.Tests

open Sys2Proof.Machine

set_option Elab.async false

/-! ## Builders -/

/-- A CONTROL frame of station 0. -/
def ctl (pl : List Byte) : Frame := ⟨.controlK, 0, 0, 0, 9, pl⟩

/-- The state with that CONTROL frame in front. -/
def ask (s : State) (pl : List Byte) : State := { s with link := { s.link with controlBuf := [ctl pl] } }

/-- A job frame of the pair (1, 7). -/
def jf (k : FrameKind) (seq : Byte) (pl : List Byte) : Frame := ⟨k, 1, 7, seq, 0, pl⟩

/-- The state with that job frame in front. -/
def front (s : State) (f : Frame) : State := { s with link := { s.link with intakeBuf := [f] } }

def withPort (s : State) (p : Port) (r : PortRec) : State := { s with ports := tset s.ports p r }

def withJob (s : State) (j : JobSlot) (r : Job) : State :=
  { s with jobs := { s.jobs with recs := tset s.jobs.recs j (some r) } }

def withAlert (s : State) (p : Port) (r : AlertRec) : State := { s with alerts := tset s.alerts p r }

def withLock (s : State) (f : FinUnit) (h : Holder) : State := { s with locks := tset s.locks f h }

/-- The reset state with the link UP. -/
def up : State := { State.reset with link := { LinkUnit.reset with state := .up, lastFlow := some .go } }

def printer : Identity := ⟨5, true, true, 0xFFFF, 4, true⟩

def readyPort : PortRec :=
  { PortRec.reset with state := .ready, outstanding := none, answerTimer := none, identity := some printer }

/-- The port of an open run in execution, with nothing in flight. -/
def runPort : PortRec :=
  { readyPort with state := .running, outstanding := some .run, runOpen := true, executing := true }

/-- A complete job of one sheet in block 0 and two copies, queued on port 15. -/
def job : Job where
  station := 1
  tag := 7
  account := 1
  dest := 63
  priority := 3
  copies := 2
  finishing := .staple
  needs := ⟨true, true, 0xFFFF⟩
  intake := .complete
  expected := none
  received := 1
  head := some 0
  tail := some 0
  phase := .queued
  boundPort := some 15
  lastPort := none
  held := false
  creditStopped := false
  cancel := none
  feed := ⟨.at 1 1, some 0⟩
  confirm := .at 1 1
  copiesDone := 0
  delivered := 0
  charged := 0
  releaseBehind := false
  outcome := none

/-- A receiving job on the unbound list. -/
def rcv : Job :=
  { job with
    intake := .receiving, expected := some 255, received := 0, head := none, tail := none, phase := .unbound,
    boundPort := none, feed := ⟨.at 1 1, none⟩ }

/-- The sheet's entry in flight, with the last tag before the counter wraps. -/
def flight : InFlight := ⟨255, 127, 1, 1, 0, 0, 1, true, false, none, none⟩

/-- Port 15 is READY, enabled for class 63, with finisher unit 3; account 1 has credit; block 0 holds a sheet. -/
def shop : State :=
  { withPort up 15 readyPort with
    spool := { Spool.reset with pool := List.range' 1 65535, links := [(0, ⟨none, 5, some ⟨1, .mono, .blank, 15, 1⟩⟩)] }
    table := tset State.reset.table 15 { PortEntry.reset with finisher := some 3, standbyDelay := 240 }
    binder := { Binder.reset with routes := tset Binder.reset.routes 63 0x8000 }
    meter := { Meter.reset with
      accounts := tset Meter.reset.accounts 1 { AccountRec.reset with isOpen := true, scale := 128, balance := 10 }
      rates := tset Meter.reset.rates 15 ⟨1, 4095⟩ } }

/-- The job of slot 127 queued on port 15. -/
def queued : State :=
  { withJob shop 127 job with
    binder := { shop.binder with queues := tset shop.binder.queues 15 [127], bindOrder := [127] } }

/-- The job of slot 127 claimed by port 15, which runs it with nothing in flight. -/
def runs (r : PortRec) : State :=
  { withJob queued 127 { job with phase := .claimed } with
    ports := tset shop.ports 15 r
    binder := { queued.binder with claims := tset shop.binder.claims 15 (some 127) }
    locks := tset shop.locks 3 (.job 127 15) }

/-- The same with its first sheet in flight, reserved on account 1. -/
def busy : State :=
  { runs { runPort with inFlight := [flight], sheetsFed := 1 } with
    jobs := { recs := tset shop.jobs.recs 127 (some { job with phase := .claimed, feed := ⟨.at 2 1, some 0⟩ }), ended := [] }
    meter := { shop.meter with
      accounts := tset shop.meter.accounts 1
        { AccountRec.reset with isOpen := true, scale := 128, balance := 10, reserved := 1, inFlight := 1 } }
    pending := [.shopClockTick] }

/-- A command answers a next state of which the test holds. -/
def after (c : Instr) (s : State) (test : State → Bool) : Bool :=
  match exec c s with
  | .next t => test t
  | _ => false

/-- The payload of the frame in the transmitter. -/
def sent (t : State) : List Byte := (t.link.tx.map OutFrame.payload).getD []

/-! ## The worked examples of the spec -/

/-- The check of 2.2's example: words 1A00, F3C2, 2051 and an odd byte 7E give 53EB (R29). -/
theorem test_frame_check : frameCheck [0x1A, 0x00, 0xF3, 0xC2, 0x20, 0x51, 0x7E] = 0x53EB := by decide

/-- The cost examples of 8.2 (R136). -/
theorem test_sheet_costs :
    sheetCost ⟨12, 45⟩ 96 ⟨1, .color, .mono, 0, 1⟩ = 43 ∧ sheetCost ⟨12, 45⟩ 128 ⟨1, .mono, .blank, 0, 1⟩ = 12
    ∧ sheetCost ⟨1, 0⟩ 1 ⟨1, .mono, .mono, 0, 1⟩ = 1 ∧ sheetCost ⟨0, 100⟩ 200 ⟨1, .color, .color, 0, 1⟩ = 313
    ∧ sheetCost ⟨4095, 4095⟩ 255 ⟨1, .color, .color, 0, 1⟩ = 16317
    ∧ sheetCost ⟨4095, 4095⟩ 255 ⟨1, .blank, .blank, 0, 1⟩ = 0 ∧ sheetCost ⟨12, 45⟩ 0 ⟨1, .color, .mono, 0, 1⟩ = 0 := by
  decide

/-! ## Well-formedness and the table's words -/

theorem test_wellFormed_refuses_empty_frame : wellFormed (.frameArrives []) = false := rfl

theorem test_wellFormed_frame : wellFormed (.frameArrives [0]) = true := rfl

theorem test_no_word_spells_a_command : decodeTableWord 16 0xFFFF = none := rfl

/-! ## The laws hold of a state with a job, a run, a lock and a sheet in flight -/

theorem witness_StoredKept : busy.Stored := ⟨by decide +kernel, by decide +kernel, rfl, rfl⟩

theorem witness_step : ∃ t, step busy = .next t := ⟨_, rfl⟩

theorem witness_LinkKept : busy.link.Legal := by constructor <;> decide +kernel

theorem witness_TablesKept : busy.TablesLegal := by
  refine ⟨⟨0, rfl⟩, ?_, ?_, ?_, ?_, by decide +kernel, by decide +kernel⟩
  · unfold Settings.Legal; decide +kernel
  · unfold Pacing.Legal; decide +kernel
  · unfold PortEntry.Legal; decide +kernel
  · unfold Rate.Legal; decide +kernel

/-- The port of a run is consistent, and so is a port that probes. -/
theorem witness_PortsKept : busy.PortsConsistent := by
  intro p
  have h : busy.port p = if p = 15 then busy.port 15 else PortRec.reset := by revert p; decide +kernel
  rw [h]
  split <;> constructor <;> decide +kernel

theorem witness_CountersKept : busy.PortsCounted := by
  intro p
  have h : busy.port p = if p = 15 then busy.port 15 else PortRec.reset := by revert p; decide +kernel
  rw [h]
  split <;> constructor <;> decide +kernel

theorem witness_AccountsKept : busy.AccountsCovered := by
  intro a
  have h : busy.account a = if a = 1 then busy.account 1 else if a = 0 then AccountRec.house else AccountRec.reset := by
    revert a; decide +kernel
  rw [h]
  split
  · constructor <;> decide +kernel
  · split <;> constructor <;> decide +kernel

theorem witness_AlertsKept : busy.AlertsLegal := by
  intro p
  have h : busy.alert p = AlertRec.reset := by revert p; decide +kernel
  rw [h]
  constructor <;> decide

/-- Lock 3 is held by the claimed job of port 15, whose entry names unit 3. -/
theorem witness_LocksKept : busy.LocksHeld ∧ busy.lock 3 = .job 127 15 := by
  refine ⟨?_, rfl⟩
  have h : ∀ f, busy.lock f = if f = 3 then .job 127 15 else .free := by decide +kernel
  intro f j p hl
  rw [h] at hl
  split at hl
  · cases hl; subst f; exact ⟨rfl, rfl⟩
  · cases hl

/-- The queue of port 15 holds its claimed job. -/
theorem witness_BinderKept : busy.Bound := by
  have hq : ∀ p, busy.queue p = if p = 15 then [127] else [] := by decide +kernel
  have hc' : ∀ p, busy.claim p = if p = 15 then some 127 else none := by decide +kernel
  have hl : ∀ j, busy.live j = if j = 127 then busy.slot 127 else none := by decide +kernel
  constructor
  · decide
  · decide +kernel
  · decide
  · decide +kernel
  · decide +kernel
  · intro j hj; cases hj
  · intro p j hj
    rw [hq] at hj
    split at hj
    · obtain rfl : j = 127 := by simpa using hj
      subst p
      exact ⟨_, rfl, rfl, rfl⟩
    · cases hj
  · intro j r hr
    rw [hl] at hr
    split at hr
    · subst j; exact .inr ⟨15, by decide +kernel⟩
    · cases hr
  · intro p j hc
    rw [hc'] at hc
    split at hc
    · cases hc; subst p; decide +kernel
    · cases hc
  · decide +kernel
  · decide +kernel
  · decide +kernel
  · decide
  · intro j
    have h : (busy.slot j).all (fun r => decide (r.outcome = none)) = true := by revert j; decide +kernel
    constructor
    · intro hj; cases hj
    · rintro ⟨r, hr, ho⟩; rw [hr] at h; exact absurd (of_decide_eq_true h) ho
  · intro p; rw [hq]; split <;> simp

/-- Three held jobs queued on port 15, bound in the order 127, 126, 125: the second has priority 0, the others 3. -/
def lined : State :=
  let r : Job := { job with held := true }
  { withJob (withJob (withJob shop 127 r) 126 { r with tag := 8, priority := 0 }) 125 { r with tag := 9 } with
    binder := { shop.binder with queues := tset shop.binder.queues 15 [126, 127, 125], bindOrder := [127, 126, 125] } }

/-- Three jobs in one queue, which the priority orders first and the bind order next. -/
theorem witness_BinderKept_order : lined.PortsConsistent ∧ lined.Bound := by
  have hq : ∀ p, lined.queue p = if p = 15 then [126, 127, 125] else [] := by decide +kernel
  have hc : ∀ p, lined.claim p = none := by decide +kernel
  have hl : ∀ j, (lined.live j).isSome = true → j = 125 ∨ j = 126 ∨ j = 127 := by decide +kernel
  refine ⟨?_, ?_⟩
  · intro p
    have h : lined.port p = if p = 15 then readyPort else PortRec.reset := by revert p; decide +kernel
    rw [h]
    split <;> constructor <;> decide +kernel
  constructor
  · decide
  · decide +kernel
  · decide
  · decide +kernel
  · decide +kernel
  · intro j hj; cases hj
  · intro p j hj
    rw [hq] at hj
    split at hj
    · subst p
      rcases (by simpa using hj : j = 126 ∨ j = 127 ∨ j = 125) with rfl | rfl | rfl <;> exact ⟨_, rfl, rfl, rfl⟩
    · cases hj
  · intro j r h
    refine .inr ⟨15, ?_⟩
    rcases hl j (by rw [h]; rfl) with rfl | rfl | rfl <;> decide +kernel
  · intro p j h
    rw [hc] at h; cases h
  · decide +kernel
  · decide +kernel
  · decide +kernel
  · decide
  · intro j
    have h : (lined.slot j).all (fun r => decide (r.outcome = none)) = true := by revert j; decide +kernel
    constructor
    · intro hj; cases hj
    · rintro ⟨r, hr, ho⟩; rw [hr] at h; exact absurd (of_decide_eq_true h) ho
  · intro p
    rw [hq]
    split
    · refine .cons ?_ (.cons ?_ (List.pairwise_singleton _ _))
      · intro k hk
        rcases (by simpa using hk : k = 127 ∨ k = 125) with rfl | rfl <;> exact ⟨_, _, rfl, rfl, .inl (by decide)⟩
      · intro k hk
        obtain rfl := List.mem_singleton.mp hk
        exact ⟨_, _, rfl, rfl, .inr ⟨rfl, by decide⟩⟩
    · exact .nil

/-- The entry in flight is reserved on account 1. -/
theorem witness_LedgerKept : busy.Ledger ∧ (busy.account 1).reserved = 1 :=
  ⟨⟨by decide +kernel, by decide +kernel, by decide +kernel, by decide +kernel⟩, rfl⟩

/-- The same with a receiving job in slot 0, whose open sheet fills block 1: a write is granted, another waits. -/
def arriving : Job := { rcv with head := some 1, tail := some 1 }

def filling : State :=
  { withJob busy 0 arriving with
    intake := { busy.intake with
      slots := tset busy.intake.slots 7 (some ⟨0, some 1, 1, 2048⟩)
      writeList := [.write 0 1 0 (List.replicate 1024 7) false, .write 0 1 1024 (List.replicate 1024 7) false] }
    spool := { busy.spool with pool := List.range' 2 65534, granted := some .write }
    binder := { busy.binder with unbound := [0] } }

theorem filling_slot : ∀ j, filling.slot j = if j = 127 then busy.slot 127 else if j = 0 then some arriving else none := by
  decide +kernel

theorem filling_live : ∀ j, filling.live j = if j = 127 then busy.slot 127 else if j = 0 then some arriving else none := by
  decide +kernel

theorem filling_place :
    ∀ i, tget filling.intake.slots i = if i = 7 then some ⟨0, some 1, 1, 2048⟩ else none := by decide +kernel

theorem witness_filling_bound : filling.Bound := by
  have hq : ∀ p, filling.queue p = if p = 15 then [127] else [] := by decide +kernel
  have hc' : ∀ p, filling.claim p = if p = 15 then some 127 else none := by decide +kernel
  constructor
  · decide
  · decide +kernel
  · decide
  · decide +kernel
  · decide +kernel
  · intro j hj
    obtain rfl : j = 0 := List.mem_singleton.mp hj
    exact ⟨_, rfl, rfl, rfl⟩
  · intro p j hj
    rw [hq] at hj
    split at hj
    · obtain rfl : j = 127 := by simpa using hj
      subst p
      exact ⟨_, rfl, rfl, rfl⟩
    · cases hj
  · intro j r hr
    rw [filling_live] at hr
    split at hr
    · subst j; exact .inr ⟨15, by decide +kernel⟩
    · split at hr
      · subst j; exact .inl (by decide +kernel)
      · cases hr
  · intro p j hc
    rw [hc'] at hc
    split at hc
    · cases hc; subst p; decide +kernel
    · cases hc
  · decide +kernel
  · decide +kernel
  · decide +kernel
  · decide
  · intro j
    have h : (filling.slot j).all (fun r => decide (r.outcome = none)) = true := by revert j; decide +kernel
    constructor
    · intro hj; cases hj
    · rintro ⟨r, hr, ho⟩; rw [hr] at h; exact absurd (of_decide_eq_true h) ho
  · intro p; rw [hq]; split <;> simp

theorem witness_filling_stored : filling.Stored := ⟨by decide +kernel, by decide +kernel, rfl, rfl⟩

/-- The one held slot, its two writes, and no stall. -/
theorem witness_filling_intake : filling.IntakeLegal := by
  have hx : ∀ {i x}, tget filling.intake.slots i = some x → i = 7 ∧ x = ⟨0, some 1, 1, 2048⟩ := by
    intro i x h
    rw [filling_place] at h
    split at h
    · exact ⟨‹_›, (Option.some.inj h).symm⟩
    · cases h
  have hw : ∀ {e}, e ∈ filling.intake.writeList → ∃ off, e = .write 0 1 off (List.replicate 1024 7) false
      ∧ off + 1024 ≤ 2048 := by
    intro e h
    rcases List.mem_cons.mp h with h | h
    · exact ⟨0, h, by decide⟩
    · exact ⟨1024, List.mem_singleton.mp h, by decide⟩
  constructor
  · intro i x h; obtain ⟨-, rfl⟩ := hx h; exact ⟨_, rfl, rfl⟩
  · intro i k x y h h' _; rw [(hx h).1, (hx h').1]
  · intro j r hr hi
    rw [filling_live] at hr
    split at hr
    · cases hr; cases hi
    · split at hr
      · subst j; cases hr; exact ⟨rfl, 7, _, rfl, rfl⟩
      · cases hr
  · intro i x h ho; obtain ⟨-, rfl⟩ := hx h; cases ho
  · intro i x h _; obtain ⟨-, rfl⟩ := hx h; exact ⟨by decide, by decide, by decide, by decide +kernel⟩
  · intro i x h ho; obtain ⟨-, rfl⟩ := hx h; cases ho
  · decide
  · intro _; exact ⟨_, _, _, _, _, rfl⟩
  · intro j b off bytes h
    obtain ⟨o, he, -⟩ := hw h
    cases he
    exact ⟨_, rfl⟩
  · intro e h
    obtain ⟨o, rfl, -⟩ := hw (List.mem_of_mem_drop h)
    exact ⟨7, _, rfl, rfl⟩
  · intro j b off bytes v h
    obtain ⟨o, he, ho⟩ := hw h
    cases he
    simp only [List.length_replicate]
    exact ⟨by decide, by decide, ho⟩
  · intro a j b m1 m2 m c h
    obtain ⟨o, he, -⟩ := hw (h ▸ List.mem_append_right a List.mem_cons_self)
    cases he
  · intro f h; cases h
  · decide +kernel
  · rfl

/-- The pool holds every block but 0 and 1, which the two chains hold. -/
theorem witness_filling_chained : filling.Chained := by
  constructor
  · have h : allSlots.flatMap filling.chainOf = [1, 0] := by decide +kernel
    rw [h]
    refine (List.perm_append_comm.trans (List.Perm.swap 0 1 _)).trans (List.Perm.of_eq ?_)
    rw [List.range_eq_range', show (65536 : Nat) = 2 + 65534 from rfl, ← List.range'_append_1]
    rfl
  · intro j r hr
    rw [filling_slot] at hr
    split at hr
    · cases hr; decide +kernel
    · split at hr
      · cases hr; decide +kernel
      · cases hr
  · intro j r b hr hb
    rw [filling_slot] at hr
    split at hr
    · cases hr; cases hb; decide +kernel
    · split at hr
      · cases hr; cases hb; decide +kernel
      · cases hr
  · intro j r hr ho
    rw [filling_slot] at hr
    split at hr
    · cases hr; exact absurd rfl ho
    · split at hr
      · cases hr; exact absurd rfl ho
      · cases hr

theorem witness_IntakeAndPoolKept :
    filling.Stored ∧ filling.Bound ∧ filling.IntakeLegal ∧ filling.Chained ∧ ∃ t, step filling = .next t :=
  ⟨witness_filling_stored, witness_filling_bound, witness_filling_intake, witness_filling_chained, _, rfl⟩

theorem filling_cursors : ∀ r, r = { job with phase := .claimed, feed := ⟨.at 2 1, some 0⟩ } ∨ r = arriving →
    r.CursorsLegal := by
  rintro r (rfl | rfl)
  · constructor <;> simp [job, Pos.before]
  · constructor <;> simp [arriving, rcv, job, Pos.before]

/-- The chain of slot 127 is its one sheet, with the feed cursor at the second copy; that of slot 0 an open sheet. -/
theorem witness_CursorsKept : filling.PortsConsistent ∧ filling.PortsCounted ∧ filling.Ledger ∧ filling.CursorsHeld := by
  refine ⟨witness_PortsKept, witness_CountersKept,
    ⟨by decide +kernel, by decide +kernel, by decide +kernel, by decide +kernel⟩, ?_⟩
  constructor
  · intro j r hr
    rw [filling_live] at hr
    split at hr
    · subst j; cases hr
      refine ⟨[[0]], [], by decide +kernel, ⟨⟨0, [], _, rfl, rfl, rfl, rfl, by simp⟩, trivial⟩, rfl, by simp, ?_⟩
      intro i x hx hj
      rw [filling_place] at hx
      split at hx
      · cases hx; cases hj
      · cases hx
    · split at hr
      · subst j; cases hr
        refine ⟨[], [1], by decide +kernel, trivial, rfl, by decide +kernel, ?_⟩
        intro i x hx hj
        rw [filling_place] at hx
        split at hx
        · cases hx
          refine ⟨?_, ?_, ?_⟩
          · intro b hb; cases hb; exact ⟨rfl, rfl⟩
          · intro b m1 m2 m hm
            rcases List.mem_cons.mp hm with h | h
            · cases h
            · cases List.mem_singleton.mp h
          · intro h; cases h
        · cases hx
      · cases hr
  · intro j r hr
    rw [filling_live] at hr
    split at hr
    · cases hr; decide +kernel
    · split at hr
      · cases hr; decide +kernel
      · cases hr
  · intro j r c n hr hp hn
    rw [filling_live] at hr
    split at hr
    · cases hr; simp
    · split at hr
      · cases hr; cases hp; cases hn
      · cases hr
  · intro j r hr hb
    rw [filling_slot] at hr
    split at hr
    · cases hr; cases hb
    · split at hr
      · cases hr; cases hb
      · cases hr
  · intro j r hr
    rw [filling_slot] at hr
    split at hr
    · cases hr; exact filling_cursors _ (.inl rfl)
    · split at hr
      · cases hr; exact filling_cursors _ (.inr rfl)
      · cases hr
  · have hf : ∀ p, (filling.port p).inFlight = if p = 15 then [flight] else [] := by decide +kernel
    intro p e he r hr
    rw [hf] at he
    split at he
    · obtain rfl : e = flight := by simpa using he
      cases hr
      exact ⟨by decide, by decide, .inl (by decide)⟩
    · cases he
  · intro j r hr
    rw [filling_live] at hr
    split at hr
    · cases hr; exact .inl (by unfold Job.GoesOn; decide)
    · split at hr
      · cases hr; exact .inl (by unfold Job.GoesOn; decide)
      · cases hr

/-! ## States that meet the hypotheses of the statements: the machine, the link -/

theorem witness_StepRunsFront : State.reset.pending = [] := rfl

theorem witness_OnlyWritesChangeTables : isReset .linkUp = false ∧ ∃ t, exec .linkUp State.reset = .next t :=
  ⟨rfl, _, rfl⟩

/-- The longest payloads of 12.1. -/
theorem witness_FrameRoundTrip :
    (jf .dataK 255 (List.replicate 1024 0xFF)).payload.length ≤ payloadLimit .dataK
    ∧ (ctl (List.replicate 11 0xFF)).payload.length ≤ payloadLimit .controlK := by decide +kernel

/-- A job that was claimed before by port 14, whose restart leads to a sheet that the account cannot pay. -/
def restarts (b0 : SideMode) : State :=
  { withJob queued 127 { job with
      lastPort := some 14, received := 2, head := some 1, feed := ⟨.at 1 2, some 0⟩, confirm := .at 1 1 } with
    spool := { queued.spool with links := [(0, ⟨none, 5, some ⟨2, .mono, .blank, 15, 1⟩⟩),
      (1, ⟨some 0, 5, some ⟨1, b0, .blank, 15, 1⟩⟩)] } }

/-- A first startable job, never claimed, in READY and in STANDBY; one that restarts, and can or cannot pay then; a
claimed job that starts. -/
theorem witness_EndOfEventFrame :
    (queued.claim 15 = none ∧ queued.queue 15 = [] ++ 127 :: [] ∧ queued.slot 127 = some job
      ∧ queued.startable 15 127 = true ∧ job.lastPort = none ∧ (queued.port 15).state = .ready
      ∧ (queued.act 15).startable 15 127 = true)
    ∧ (let s := withPort queued 15 { readyPort with state := .standby }
      s.claim 15 = none ∧ s.queue 15 = [127] ∧ s.startable 15 127 = true ∧ (s.port 15).state = .standby)
    ∧ ((restarts .blank).startable 15 127 = true ∧ ((restarts .blank).act 15).startable 15 127 = true
      ∧ (restarts .color).startable 15 127 = true ∧ ((restarts .color).port 15).state = .ready
      ∧ ((restarts .color).act 15).startable 15 127 = false
      ∧ ((restarts .color).slot 127).map (fun r => (r.lastPort, r.releaseBehind, r.confirm))
          = some (some 14, false, .at 1 1))
    ∧ ∀ st ∈ [PortState.ready, .standby], let s := runs { readyPort with state := st }
      s.claim 15 = some 127 ∧ s.startable 15 127 = true ∧ (s.port 15).state = st := by
  decide +kernel

/-- At the end of the event port 15 in READY keeps a claim that is not startable; and it claims no held job. -/
theorem witness_EndOfEventFrame_rest :
    (let t := State.closing shop (restarts .color)
    (t.port 15).state = .ready ∧ (t.port 15).outstanding = none ∧ t.claim 15 = some 127)
    ∧ (let t := State.closing shop lined
    (t.port 15).state = .ready ∧ (t.port 15).outstanding = none ∧ t.claim 15 = none ∧ t.queue 15 = [126, 127, 125]) := by
  decide +kernel

/-- A state for each choice of the transmitter. -/
def noting (m : NoticeMask) (e : List (Nat × AccountEvents)) (r : List (Nat × MeterReport)) : State :=
  { up with notices := ⟨m, e, r⟩ }

def dueAt (p : Port) : State := withAlert up p { AlertRec.reset with state := .activeUnacked, kind := some .noAnswer, due := true }

def endedJob : State :=
  { withJob up 127 { job with outcome := some .done } with
    jobs := { recs := tset up.jobs.recs 127 (some { job with outcome := some .done }), ended := [127] } }

theorem witness_TransmitterChoice :
    ¬ (State.reset.link.state = .up ∧ State.reset.link.tx = none)
    ∧ (up.link.state = .up ∧ up.link.tx = none ∧ up.link.lastFlow = some up.link.target ∧ up.link.replies = [])
    ∧ ({ up.link with lastFlow := none } : LinkUnit).lastFlow ≠ some up.link.target
    ∧ (∀ p ∈ [(0 : Port), 15], (dueAt p).notices.mask.alert = true ∧ ((dueAt p).alert p).due = true
        ∧ ∀ q, ((dueAt p).alert q).due = true → p ≤ q)
    ∧ (endedJob.notices.mask.jobEnd = true ∧ endedJob.jobs.ended = [127] ∧ (endedJob.slot 127).isSome = true
        ∧ ∀ p, (endedJob.alert p).due = false)
    ∧ (∀ p, (up.alert p).due = false) ∧ up.jobs.ended = []
    ∧ (noting ⟨true, true, true, true⟩ [(255, ⟨true, false⟩)] []).notices.events = [(255, ⟨true, false⟩)]
    ∧ (noting ⟨true, true, false, true⟩ [] [(0, ⟨1, 0, 1⟩)]).notices.reports = [(0, ⟨1, 0, 1⟩)] := by
  decide +kernel

/-- Fetchers 0 and 15 wait, and so does the intake writer; a granted transfer; no request. -/
def waiting : State :=
  { withPort (withPort up 0 { runPort with fetch := some ⟨0, 0, false, false⟩ }) 15
      { runPort with fetch := some ⟨1, 0, false, false⟩ } with
    intake := { IntakeUnit.reset with writeList := [.write 127 0 0 [1] false] } }

/-- Port 15 fetches the first block of the sheet in flight, or of the next sheet; it wants none when END is sent. -/
theorem witness_ArbiterGrants :
    (waiting.spool.granted = none ∧ waiting.requestWaits 0 = true ∧ waiting.requestWaits 16 = true
      ∧ up.requestWaits 16 = false ∧ waiting.requestWaits 1 = true)
    ∧ ({ waiting.spool with granted := some .write } : Spool).granted ≠ none
    ∧ (let before : State := { waiting with spool := { waiting.spool with granted := some .write } }
      before.requestWaits 16 = true ∧ before.requestWaits 0 = false)
    ∧ (up.spool.granted = none ∧ ∀ r, up.requestWaits r = false)
    ∧ (∀ s ∈ [busy, runs runPort, State.closing shop (runs { runPort with endSent := true })],
        (s.port 15).runOpen = true ∧ (s.port 15).haltSent = false ∧ (s.port 15).fetch = none
        ∧ (s.port 15).buffer.length < 2 ∧ s.spool.granted = none)
    ∧ (busy.wanted 15 = some (0, 255) ∧ (busy.port 15).inFlight = [] ++ flight :: [] ∧ flight.sent < busy.sheetCount flight.first)
    ∧ ((runs runPort).wanted 15 = some (0, 0) ∧ ((runs runPort).port 15).inFlight = []
      ∧ (runs runPort).claim 15 = some 127 ∧ (runs runPort).live 127 = some { job with phase := .claimed }
      ∧ runPort.state = .running ∧ runPort.endSent = false ∧ job.feed.next = some 0)
    ∧ (runs { runPort with endSent := true }).wanted 15 = none ∧ (shop.port 15).runOpen = false := by
  decide +kernel

theorem witness_ResetAndLinkUp : State.reset.link.state = .down ∧ State.reset.link.Legal ∧ up.link.state = .up :=
  ⟨rfl, by constructor <;> decide, rfl⟩

theorem witness_JobsStopped_link : filling.link.state = .up ∧ State.reset.link.state = .down
    ∧ filling.IntakeLegal ∧ filling.live 0 = some arriving ∧ arriving.intake = .receiving
    ∧ filling.runOpenFor 0 = false ∧ filling.runOpenFor 127 = true :=
  ⟨rfl, rfl, witness_filling_intake, rfl, rfl, by decide +kernel, by decide +kernel⟩

/-- The bytes of a frame. -/
def bytesOf (f : Frame) : List Byte := f.wire 0

/-- A state whose buffers hold m intake frames and n control frames; station 2 has no SUBMIT. -/
def filled (m n : Nat) : State :=
  { up with
    link := { up.link with intakeBuf := List.replicate m (jf .dataK 0 [0]), controlBuf := List.replicate n (ctl [7]) }
    control := { up.control with stations := tset up.control.stations 2 ⟨false, false⟩ } }

theorem witness_FrameSorted :
    (filled 16 4).link.state = .up ∧ parseFrame [] = none
    ∧ parseFrame (bytesOf (ctl [7])) = some (ctl [7])
    ∧ parseFrame (bytesOf (jf .openK 0 [])) = some (jf .openK 0 [])
    ∧ parseFrame (bytesOf (jf .dataK 1 [5])) = some (jf .dataK 1 [5])
    ∧ parseFrame (bytesOf ⟨.closeK, 2, 7, 1, 0, []⟩) = some ⟨.closeK, 2, 7, 1, 0, []⟩
    ∧ (filled 15 3).link.controlBuf.length < 4 ∧ 4 ≤ (filled 16 4).link.controlBuf.length
    ∧ (tget (filled 0 0).control.stations 2).submit = false ∧ (tget (filled 0 0).control.stations 1).submit = true
    ∧ (filled 11 0).link.intakeBuf.length = 11 ∧ (filled 15 3).link.intakeBuf.length < 16
    ∧ 16 ≤ (filled 16 4).link.intakeBuf.length := by
  decide +kernel

theorem witness_LineEvents : ({ up.link with tx := some (flowFrame .go) } : LinkUnit).tx ≠ none := by decide

/-! ## States that meet the hypotheses of the statements: receiving jobs -/

/-- An OPEN of account 1, class 63, with every need declared, priority and copies clamped. -/
def opening (acc : Byte) : Frame := jf .openK 0 [acc, 63, 4, 0, 0, 1, 3, 0xFF, 0xFF]

/-- Refused for its account; accepted and bound to port 15; accepted and unbound while the port is OFFLINE. -/
theorem witness_OpenTaken :
    (∀ a ∈ [(1 : Byte), 2], (front shop (opening a)).link.intakeBuf.head? = some (opening a) ∧ (opening a).kind = .openK
      ∧ (front shop (opening a)).link.replies.length < 4)
    ∧ (∃ why, (front shop (opening 2)).openTests (opening 2) = .error why)
    ∧ (∃ a, (front shop (opening 1)).openTests (opening 1) = .ok (a, 0, 0) ∧ a.clamped = true
        ∧ (front shop (opening 1)).bestPort (newJob (opening 1) a) = some 15
        ∧ (front (withPort shop 15 { readyPort with state := .offline }) (opening 1)).openTests (opening 1) = .ok (a, 0, 0)
        ∧ (front (withPort shop 15 { readyPort with state := .offline }) (opening 1)).bestPort (newJob (opening 1) a)
            = none) :=
  ⟨by decide, ⟨_, rfl⟩, ⟨_, rfl, by decide +kernel, by decide +kernel, rfl, by decide +kernel⟩⟩

/-- A test of R46 fails at each point: no SUBMIT; a short payload, a sequence, a class, no media class; a pair
carried; an account CLOSED; a class without ports; every job slot taken; every intake slot taken. -/
theorem witness_OpenTaken_refused :
    (tget (filled 0 0).control.stations (2 : Station)).submit = false
    ∧ (tget shop.control.stations (opening 1).station).submit = true
    ∧ ((jf .openK 0 []).payload.length ≠ 9 ∧ (jf .openK 1 []).seq ≠ 0)
    ∧ ((opening 1).payload = [1, 63, 4, 0, 0, 1, 3, 0xFF, 0xFF] ∧ (opening 1).seq = 0 ∧ (63 : Byte).toNat = (63 : DestClass).val
      ∧ (1 : Byte).toNat = Finishing.staple.code ∧ (0xFF : Byte) ≠ 0 ∧ 64 ≤ (64 : Byte).toNat ∧ 4 ≤ (4 : Byte).toNat)
    ∧ (∃ r, queued.live 127 = some r ∧ r.station = (opening 1).station ∧ r.tag = (opening 1).tag)
    ∧ (∀ k, shop.live k = none) ∧ (shop.account 2).isOpen = false ∧ (shop.account 1).isOpen = true
    ∧ tget shop.binder.routes 0 = 0 ∧ tget shop.binder.routes 63 ≠ 0
    ∧ (let s : State := { shop with jobs := { shop.jobs with recs := Vector.replicate 128 (some { job with tag := 8 }) } }
      (∀ k, s.slot k ≠ none) ∧ ∀ k, ¬ (s.slot k).any (fun r => decide (r.tag = (opening 1).tag)) = true)
    ∧ (shop.slot 0 = none ∧ ∀ k : JobSlot, k < 0 → shop.slot k ≠ none)
    ∧ (let s : State := { shop with
        intake := { shop.intake with slots := Vector.replicate 8 (some ⟨127, none, 0, 0⟩) } }
      ∀ i, tget s.intake.slots i ≠ none)
    ∧ (tget shop.intake.slots 0 = none ∧ ∀ k : Fin 8, k < 0 → tget shop.intake.slots k ≠ none) := by
  refine ⟨?_, ?_, ?_, ?_, ⟨_, rfl, rfl, rfl⟩, ?_, ?_, ?_, ?_, ?_, ?_, ?_, ?_, ?_⟩ <;> decide +kernel

/-- The receiving job of slot 127 in intake slot 7, with a place x, a write list w, a pool and a frame in front. -/
def taking (r : Job) (x : IntakeSlot) (w : List WriteEntry) (pool : List Block) (f : Frame) : State :=
  let s := front (withJob shop 127 r) f
  { s with
    intake := { s.intake with slots := tset s.intake.slots 7 (some x), writeList := w }
    spool := { s.spool with pool := pool } }

/-- What DataTaken, MarkTaken and CloseTaken ask of the front frame. -/
def Taken (s : State) (f : Frame) (k : FrameKind) (x : IntakeSlot) : Prop :=
  ∃ r, s.link.intakeBuf.head? = some f ∧ f.kind = k ∧ s.receiverOf f = some (127, r) ∧ r.expected = some f.seq
    ∧ s.intakeSlotOf 127 = some 7 ∧ tget s.intake.slots 7 = some x

theorem witness_StrayFramesTaken :
    frameTaken .dataFrame = some .dataK ∧ (front shop (jf .dataK 0 [])).receiverOf (jf .dataK 0 []) = none
    ∧ ∃ r, (taking rcv ⟨127, none, 0, 0⟩ [] [1] (jf .abandonK 0 [])).receiverOf (jf .abandonK 0 []) = some (127, r)
        ∧ r.expected ≠ some 0 := by
  refine ⟨rfl, by decide +kernel, rcv, by decide +kernel, by decide⟩

/-- Four writes of other jobs. -/
def four : List WriteEntry := List.replicate 4 (.write 0 9 0 [1] false)

theorem witness_DataTaken :
    let d (n : Nat) := jf .dataK 255 (List.replicate n 7)
    let full : Job := { rcv with head := some 0, tail := some 0 }
    Taken (taking rcv ⟨127, none, 0, 0⟩ [] [1] (d 0)) (d 0) .dataK ⟨127, none, 0, 0⟩
    ∧ Taken (taking rcv ⟨127, none, 0, 0⟩ (four.take 3) [1] (d 1024)) (d 1024) .dataK ⟨127, none, 0, 0⟩
    ∧ (taking rcv ⟨127, none, 0, 0⟩ (four.take 3) [1] (d 1024)).listHasMark 127 = false
    ∧ Taken (taking full ⟨127, some 0, 1, 1024⟩ (four.take 3) [] (d 1024)) (d 1024) .dataK ⟨127, some 0, 1, 1024⟩
    ∧ Taken (taking full ⟨127, some 0, 65534, 2047⟩ (four.take 2) [1] (d 2)) (d 2) .dataK ⟨127, some 0, 65534, 2047⟩
    ∧ Taken (taking rcv ⟨127, none, 0, 0⟩ [] [] (d 1)) (d 1) .dataK ⟨127, none, 0, 0⟩
    ∧ Taken (taking rcv ⟨127, none, 0, 0⟩ four [1] (d 1)) (d 1) .dataK ⟨127, none, 0, 0⟩ := by
  refine ⟨⟨_, rfl, rfl, rfl, rfl, rfl, rfl⟩, ⟨_, rfl, rfl, rfl, rfl, rfl, rfl⟩, by decide +kernel,
    ⟨_, rfl, rfl, rfl, rfl, rfl, rfl⟩, ⟨_, rfl, rfl, rfl, rfl, rfl, rfl⟩, ⟨_, rfl, rfl, rfl, rfl, rfl, rfl⟩,
    ⟨_, rfl, rfl, rfl, rfl, rfl, rfl⟩⟩

/-- An entry of the job itself on the write list. -/
def own : List WriteEntry := [.write 127 0 0 [1] false]

/-- A close mark of job 127 behind a write of its own. -/
def marked : List WriteEntry := own ++ [.mark 127 0 .mono .blank 0]

/-- A full tail block; frames that wait; a sheet that is full. -/
theorem witness_DataTaken_open :
    let d (n : Nat) := jf .dataK 255 (List.replicate n 7)
    let full : Job := { rcv with head := some 0, tail := some 0 }
    Taken (taking full ⟨127, some 0, 65534, 2048⟩ (four.take 3) [1] (d 1)) (d 1) .dataK ⟨127, some 0, 65534, 2048⟩
    ∧ (Taken (taking rcv ⟨127, none, 0, 0⟩ marked [1] (d 1)) (d 1) .dataK ⟨127, none, 0, 0⟩
      ∧ (taking rcv ⟨127, none, 0, 0⟩ marked [1] (d 1)).listHasMark 127 = true)
    ∧ Taken (taking full ⟨127, some 0, 1, 2047⟩ four [] (d 1)) (d 1) .dataK ⟨127, some 0, 1, 2047⟩
    ∧ (∀ e ∈ [([], []), (four, [1]), (four.take 3, [1])],
        Taken (taking full ⟨127, some 0, 1, 2047⟩ e.1 e.2 (d 2)) (d 2) .dataK ⟨127, some 0, 1, 2047⟩)
    ∧ Taken (taking full ⟨127, some 0, 65535, 2047⟩ [] [] (d 2)) (d 2) .dataK ⟨127, some 0, 65535, 2047⟩ := by
  refine ⟨⟨_, rfl, rfl, rfl, rfl, rfl, rfl⟩, ⟨⟨_, rfl, rfl, rfl, rfl, rfl, rfl⟩, by decide +kernel⟩,
    ⟨_, rfl, rfl, rfl, rfl, rfl, rfl⟩, ?_, ⟨_, rfl, rfl, rfl, rfl, rfl, rfl⟩⟩
  rintro e _
  exact ⟨_, rfl, rfl, rfl, rfl, rfl, rfl⟩

/-- A block joins an empty chain, and a chain with a tail. -/
theorem witness_DataTaken_links :
    let d (n : Nat) := jf .dataK 255 (List.replicate n 7)
    (taking rcv ⟨127, none, 0, 0⟩ [] [1] (d 1)).Stored
    ∧ (taking { rcv with head := some 0, tail := some 0 } ⟨127, some 0, 1, 2047⟩ [] [1] (d 2)).Stored
    ∧ rcv.tail = none :=
  ⟨⟨by decide +kernel, by decide +kernel, rfl, rfl⟩, ⟨by decide +kernel, by decide +kernel, rfl, rfl⟩, rfl⟩

theorem witness_SheetCloses : queued.Stored ∧ queued.slot 127 = some job :=
  ⟨⟨by decide +kernel, by decide +kernel, rfl, rfl⟩, rfl⟩

/-- A chain of two closed sheets, in which the search finds the second. -/
theorem witness_SheetCloses_search : ∃ r, (restarts .blank).slot 127 = some r ∧ r.oldest = 1
    ∧ (restarts .blank).chain r = [[1], [0]].flatten ++ [] ∧ (restarts .blank).Sheets r.oldest [[1], [0]]
    ∧ ((restarts .blank).blockLink 0).next = none ∧ (restarts .blank).findSheet r 2 = some 0 :=
  ⟨_, rfl, rfl, by decide +kernel,
    ⟨⟨1, [], _, rfl, rfl, rfl, rfl, by simp⟩, ⟨0, [], _, rfl, rfl, rfl, rfl, by simp⟩, trivial⟩, by decide +kernel,
    by decide +kernel⟩

theorem witness_MarkTaken :
    let m (a b : Byte) := jf .markK 255 [a, b, 15]
    let st (x : IntakeSlot) (w : List WriteEntry) (pool : List Block) := taking rcv x w pool (m 1 0)
    Taken (taking rcv ⟨127, none, 0, 0⟩ [] [1] (m 3 0)) (m 3 0) .markK ⟨127, none, 0, 0⟩
    ∧ markValues rcv (m 3 0).payload = none ∧ markValues rcv (m 1 0).payload = some (.mono, .blank, 15)
    ∧ Taken (st ⟨127, some 0, 1, 5⟩ four [1]) (m 1 0) .markK ⟨127, some 0, 1, 5⟩
    ∧ (st ⟨127, some 0, 1, 5⟩ four [1]).listHas 127 = false
    ∧ Taken (st ⟨127, some 0, 1, 5⟩ (own ++ four.take 2) [1]) (m 1 0) .markK ⟨127, some 0, 1, 5⟩
    ∧ (st ⟨127, some 0, 1, 5⟩ (own ++ four.take 2) [1]).listHas 127 = true
    ∧ Taken (st ⟨127, none, 0, 0⟩ [] []) (m 1 0) .markK ⟨127, none, 0, 0⟩
    ∧ Taken (st ⟨127, none, 0, 0⟩ four [65535]) (m 1 0) .markK ⟨127, none, 0, 0⟩ := by
  refine ⟨⟨_, rfl, rfl, rfl, rfl, rfl, rfl⟩, by decide +kernel, by decide +kernel, ⟨_, rfl, rfl, rfl, rfl, rfl, rfl⟩,
    by decide +kernel, ⟨_, rfl, rfl, rfl, rfl, rfl, rfl⟩, by decide +kernel, ⟨_, rfl, rfl, rfl, rfl, rfl, rfl⟩,
    ⟨_, rfl, rfl, rfl, rfl, rfl, rfl⟩⟩

/-- The MARK that waits for room on the list; an empty sheet that waits for a close mark. -/
theorem witness_MarkTaken_waits :
    let st (x : IntakeSlot) (w : List WriteEntry) := taking rcv x w [1] (jf .markK 255 [1, 0, 15])
    (Taken (st ⟨127, some 0, 1, 5⟩ (own ++ four.take 3)) (jf .markK 255 [1, 0, 15]) .markK ⟨127, some 0, 1, 5⟩
      ∧ (st ⟨127, some 0, 1, 5⟩ (own ++ four.take 3)).listHas 127 = true)
    ∧ Taken (st ⟨127, none, 0, 0⟩ marked) (jf .markK 255 [1, 0, 15]) .markK ⟨127, none, 0, 0⟩
    ∧ (st ⟨127, none, 0, 0⟩ marked).listHasMark 127 = true := by
  refine ⟨⟨⟨_, rfl, rfl, rfl, rfl, rfl, rfl⟩, by decide +kernel⟩, ⟨_, rfl, rfl, rfl, rfl, rfl, rfl⟩, by decide +kernel⟩

theorem witness_CloseTaken :
    let c := jf .closeK 255 []
    let st (r : Job) (x : IntakeSlot) (w : List WriteEntry) := taking r x w [1] c
    Taken (st rcv ⟨127, some 0, 1, 5⟩ own) c .closeK ⟨127, some 0, 1, 5⟩ ∧ (st rcv ⟨127, some 0, 1, 5⟩ own).listHas 127 = true
    ∧ Taken (st rcv ⟨127, none, 0, 0⟩ four) c .closeK ⟨127, none, 0, 0⟩ ∧ (st rcv ⟨127, none, 0, 0⟩ four).listHas 127 = false
    ∧ rcv.received = 0 ∧ (st rcv ⟨127, none, 0, 0⟩ four).claimPort 127 = none
    ∧ Taken (st { rcv with received := 65534 } ⟨127, some 0, 1, 5⟩ []) c .closeK ⟨127, some 0, 1, 5⟩ := by
  refine ⟨⟨_, rfl, rfl, rfl, rfl, rfl, rfl⟩, by decide +kernel, ⟨_, rfl, rfl, rfl, rfl, rfl, rfl⟩, by decide +kernel, rfl,
    by decide +kernel, ⟨_, rfl, rfl, rfl, rfl, rfl, rfl⟩⟩

/-- The receiving job of slot 127 with one sheet in block 0, which port 15 runs. -/
def early : Job := { rcv with received := 1, head := some 0, tail := some 0, phase := .claimed, boundPort := some 15,
                              feed := ⟨.at 1 2, none⟩ }

/-- The same with a frame in front, in intake slot 7. -/
def earlyRun (w : List WriteEntry) (f : Frame) : State :=
  let s := front (withJob (runs runPort) 127 early) f
  { s with intake := { s.intake with slots := tset s.intake.slots 7 (some ⟨127, none, 0, 0⟩), writeList := w } }

theorem witness_CloseTaken_run :
    let c := jf .closeK 255 []
    (Taken (earlyRun [] c) c .closeK ⟨127, none, 0, 0⟩ ∧ (earlyRun [] c).listHas 127 = false
      ∧ (earlyRun [] c).runOpenFor 127 = true ∧ early.received ≠ 0 ∧ early.copiesDone ≠ early.copies)
    ∧ Taken (taking { rcv with received := 65535 } ⟨127, some 0, 1, 5⟩ [] [1] c) c .closeK ⟨127, some 0, 1, 5⟩ :=
  ⟨⟨⟨_, rfl, rfl, rfl, rfl, rfl, rfl⟩, by decide +kernel, by decide +kernel, by decide, by decide⟩,
    ⟨_, rfl, rfl, rfl, rfl, rfl, rfl⟩⟩

/-- The run's cursor waits for the sheet that is open when CLOSE comes; a job whose only copy is done when CLOSE
comes. -/
theorem witness_CloseTaken_open :
    let c := jf .closeK 255 []
    let s : State := { earlyRun [] c with
      intake := { (earlyRun [] c).intake with
        slots := tset (earlyRun [] c).intake.slots 7 (some ⟨127, some 1, 1, 5⟩) } }
    let r : Job := { rcv with received := 1, head := some 0, tail := some 0, copies := 1, confirm := .at 1 2 }
    (Taken s c .closeK ⟨127, some 1, 1, 5⟩ ∧ s.listHas 127 = false ∧ early.received ≠ 65535 ∧ s.claimPort 127 = some 15
      ∧ early.feed = ⟨.at 1 (early.received + 1), none⟩)
    ∧ Taken (taking r ⟨127, none, 0, 0⟩ [] [1] c) c .closeK ⟨127, none, 0, 0⟩
    ∧ (taking r ⟨127, none, 0, 0⟩ [] [1] c).runOpenFor 127 = false ∧ r.confirm = .at 1 (r.received + 1)
    ∧ r.copiesDone + 1 = r.copies :=
  ⟨⟨⟨_, rfl, rfl, rfl, rfl, rfl, rfl⟩, by decide +kernel, by decide, by decide +kernel, rfl⟩,
    ⟨_, rfl, rfl, rfl, rfl, rfl, rfl⟩, by decide +kernel, rfl, rfl⟩

/-- No finished job is live; front frames that need a block and that need none. -/
theorem witness_AbandonAndStall :
    Taken (taking rcv ⟨127, none, 0, 0⟩ [] [1] (jf .abandonK 255 [])) (jf .abandonK 255 []) .abandonK ⟨127, none, 0, 0⟩
    ∧ rcv.cancel = none
    ∧ ({ shop.intake with stalled := some 127, stallTimer := some 10000 } : IntakeUnit).stalled = some 127
    ∧ (withJob shop 127 rcv).live 127 = some rcv
    ∧ (endedJob.jobs.ended = [127] ∧ endedJob.live 127 = none)
    ∧ shop.link.intakeBuf = [] ∧ (front shop (jf .dataK 0 [1])).receiverOf (jf .dataK 0 [1]) = none
    ∧ rcv.expected ≠ some 0
    ∧ (∀ k ∈ [FrameKind.dataK, .markK, .closeK],
        Taken (taking rcv ⟨127, none, 0, 0⟩ [] [] (jf k 255 [1, 0, 15])) (jf k 255 [1, 0, 15]) k ⟨127, none, 0, 0⟩) := by
  refine ⟨⟨_, rfl, rfl, rfl, rfl, rfl, rfl⟩, rfl, rfl, rfl, ⟨rfl, rfl⟩, rfl, by decide +kernel, by decide, ?_⟩
  intro k hk
  fin_cases hk <;> exact ⟨_, rfl, rfl, rfl, rfl, rfl, rfl⟩

/-- A granted write with another behind it; a write of the last byte of the last block, void or not, with a close mark
behind it; a mark before and behind a write of its job; a job whose cursor waits for the sheet, run by a port or not. -/
theorem witness_TransfersComplete :
    (filling.Stored ∧ filling.spool.granted = some .write
      ∧ filling.intake.writeList.head? = some (.write 0 1 0 (List.replicate 1024 7) false))
    ∧ (readyMarks [] [.write 0 9 0 [1] false, .mark 0 9 .mono .blank 0]).1 = []
    ∧ (marked = own ++ .mark 127 0 .mono .blank 0 :: [] ∧ ∀ e ∈ own ++ [], ∀ g n1 n2 n, e ≠ .mark 127 g n1 n2 n)
    ∧ (∀ v, ({ busy.intake with writeList := [.write 127 65535 2047 [1] v] } : IntakeUnit).writeList
        = [.write 127 65535 2047 [1] v])
    ∧ (queued.slot 127 = some job ∧ job.feed.next ≠ none)
    ∧ ((earlyRun [] (jf .closeK 255 [])).slot 127 = some early ∧ early.feed = ⟨.at 1 (early.received + 1), none⟩
      ∧ (earlyRun [] (jf .closeK 255 [])).claimPort 127 = some 15)
    ∧ ((withJob shop 127 rcv).slot 127 = some rcv ∧ rcv.feed = ⟨.at 1 (rcv.received + 1), none⟩
      ∧ (withJob shop 127 rcv).claimPort 127 = none)
    ∧ (withPort { busy with spool := { busy.spool with granted := some (.fetch 15 65535) } } 15
        { runPort with fetch := some ⟨65535, 255, true, false⟩ }).spool.granted = some (.fetch 15 65535)
    ∧ ({ runPort with fetch := some ⟨65535, 255, true, false⟩ } : PortRec).fetch = some ⟨65535, 255, true, false⟩ :=
  ⟨⟨witness_filling_stored, rfl, rfl⟩, by decide, ⟨rfl, by simp [own]⟩, fun _ => rfl, ⟨rfl, by decide⟩,
    ⟨rfl, rfl, by decide +kernel⟩, ⟨rfl, rfl, by decide +kernel⟩, rfl, rfl⟩

/-! ## States that meet the hypotheses of the statements: requests -/

/-- A request of station 0, which holds MANAGE, with room for its reply. -/
theorem ask_asks (s : State) (pl : List Byte) (hr : s.link.replies.length < 4)
    (hm : (tget s.control.stations 0).manage = true) : (ask s pl).Asks (ctl pl) pl := ⟨rfl, rfl, hr, hm⟩

/-- Every request of the statements can be asked in these states: the hypothesis Asks. -/
theorem witness_Asks (pl : List Byte) :
    (ask shop pl).Asks (ctl pl) pl ∧ (ask queued pl).Asks (ctl pl) pl ∧ (ask busy pl).Asks (ctl pl) pl :=
  ⟨ask_asks shop pl (by decide) rfl, ask_asks queued pl (by decide) rfl, ask_asks busy pl (by decide) rfl⟩

/-- A full reply queue; a station without MANAGE; a payload cut short; an unknown code. -/
theorem witness_RequestsChecked :
    requestOf .clearStatus = some 42 ∧ requestCode (ctl [42, 0]).payload = 42
    ∧ (ask shop [42, 0]).link.controlBuf.head? = some (ctl [42, 0])
    ∧ 4 ≤ ({ up.link with replies := List.replicate 4 ⟨0, 0, 0, []⟩ } : LinkUnit).replies.length
    ∧ (ask shop [42, 0]).permits { ctl [42, 0] with station := 255 } = false ∧ (ask shop [42, 0]).permits (ctl [42, 0]) = true
    ∧ (ask shop [42]).link.replies.length < 4 ∧ requestForm (ctl [42]).payload = false
    ∧ requestLength (requestCode (ctl [43]).payload) = none ∧ requestLength (requestCode (ctl []).payload) = none := by
  decide +kernel

/-- The bounds of each index; a free slot, and a pair that no live job carries. -/
theorem witness_IndicesAndJobsChecked :
    (requestOf .queueRead = some 10 ∧ requestOf .alertRead = some 33 ∧ requestOf .cancel = some 4)
    ∧ 16 ≤ (16 : Byte).toNat ∧ 16 ≤ (255 : Byte).toNat ∧ 128 ≤ (128 : Byte).toNat ∧ 64 ≤ (64 : Byte).toNat
    ∧ 4 ≤ (4 : Byte).toNat ∧ 17 ≤ (17 : Byte).toNat ∧ (1 : Byte).toNat ≤ 1
    ∧ ((0 : Byte) ≠ 0 ∨ (2 : Byte) ≠ 0) ∧ 256 < (255 : Byte).toNat + ((0 : Byte).toNat * 256 + (2 : Byte).toNat)
    ∧ shop.live 127 = none ∧ shop.slot 127 = none ∧ (127 : Byte).toNat = 127
    ∧ (ask queued [1, 1, 1, 0, 8]).findPair (index256 1) (halfOf 0 8) = none ∧ (15 : Byte).toNat < 16 := by
  decide +kernel

/-- The pair of a live job; a port of MOVE that exists. -/
theorem witness_IndicesAndJobsChecked_pair :
    (ask queued [1, 1, 1, 0, 7]).findPair (index256 1) (halfOf 0 7) = some 127 ∧ requestOf .release = some 3
    ∧ requestOf .jobQuery = some 1 ∧ requestOf .portReset = some 18 ∧ (15 : Byte).toNat < 16 := by
  decide +kernel

theorem witness_ReadsReport :
    (63 : Byte).toNat = (63 : DestClass).val ∧ (15 : Byte).toNat = (15 : Port).val ∧ (255 : Byte).toNat = (255 : Station).val
    ∧ (3 : Byte).toNat = (3 : PacingClass).val ∧ (15 : Byte).toNat = (15 : Media).val
    ∧ (ask busy [1, 0, 127, 0, 0]).namedJob true (jobRef 0 127 0 0) = .ok 127
    ∧ (ask busy [1, 1, 1, 0, 7]).namedJob true (jobRef 1 1 0 7) = .ok 127
    ∧ ((ask busy [1, 0, 127, 0, 0]).slot 127).isSome = true := by
  refine ⟨rfl, rfl, rfl, rfl, rfl, by rfl, by rfl, rfl⟩

/-- Sheet 65,536 does not fit in the two bytes of a cursor's field; 65,535 does. -/
theorem witness_ReadsReport_cursor (x y : Byte) :
    CursorField (.at 1 65535) [0, 1, 0xFF, 0xFF] ∧ CursorField (.at 1 65536) [0, 1, x, y]
    ∧ CursorField .endPos [0, 0, x, y] := ⟨rfl, ⟨x, y, rfl⟩, ⟨x, y, rfl⟩⟩

/-- A range of stations up to 255, which leaves station 0 its MANAGE; and one that takes it from every station. -/
theorem witness_ControlWrites :
    (3 : Byte).toNat = (3 : PacingClass).val ∧ (16 : Byte).toNat = (16 : Requester).val
    ∧ ((0 : Byte) ≠ 0 ∨ (1 : Byte) ≠ 0) ∧ (255 : Byte).toNat + ((0 : Byte).toNat * 256 + (1 : Byte).toNat) ≤ 256
    ∧ (∃ i, (tget (Vector.ofFn fun i : Station =>
        if 255 ≤ i.val ∧ i.val < 255 + 1 then ⟨true, false⟩ else tget shop.control.stations i) i).manage = true)
    ∧ ((1 : Byte) ≠ 0 ∨ (0 : Byte) ≠ 0) ∧ (0 : Byte).toNat + ((1 : Byte).toNat * 256 + (0 : Byte).toNat) ≤ 256
    ∧ ∀ i, (tget (Vector.replicate 256 (⟨true, false⟩ : Permissions)) i).manage = false := by
  refine ⟨rfl, rfl, by decide, by decide, ⟨0, by decide +kernel⟩, by decide, by decide, fun i => by simp⟩

theorem witness_FinisherLockRequests :
    (3 : Byte).toNat = (3 : FinUnit).val ∧ 4 ≤ (4 : Byte).toNat ∧ shop.lock 3 = .free
    ∧ (withLock shop 3 .management).lock 3 = .management ∧ busy.lock 3 = .job 127 15 ∧ (busy.slot 127).isSome = true := by
  decide +kernel

/-- Lock 3 has been released, and the job of port 15 contends for it; no port names unit 0. -/
theorem witness_LockGranted :
    (up.lock 3 = .free ∧ busy.lock 3 ≠ .free) ∧ (∀ p, queued.contender 0 p = none)
    ∧ ((withLock queued 3 .management).lock 3 ≠ .free ∧ queued.lock 3 = .free
        ∧ queued.contender 3 15 = some (15, 127)) := by
  refine ⟨by decide +kernel, by decide +kernel, by decide +kernel, by decide +kernel, by decide +kernel⟩

/-- Ports 14 and 15 name unit 3, and the first job of each queue needs it: job 126 of port 14 with a priority, and job 127
of port 15, bound first, with priority 3. -/
def rivals (pri : Fin 4) : State :=
  { withPort (withJob queued 126 { job with tag := 8, priority := pri, boundPort := some 14 }) 14 readyPort with
    table := tset queued.table 14 { PortEntry.reset with finisher := some 3 }
    binder := { queued.binder with queues := tset queued.binder.queues 14 [126], bindOrder := [127, 126] } }

/-- Two ports contend for the released lock, with other priorities and with equal ones. -/
theorem witness_LockGranted_two : ∀ pri ∈ [(0 : Fin 4), 3],
    (withLock (rivals pri) 3 .management).lock 3 ≠ .free ∧ (rivals pri).lock 3 = .free
    ∧ (rivals pri).contender 3 14 = some (14, 126) ∧ (rivals pri).contender 3 15 = some (15, 127) := by
  decide +kernel

theorem witness_AlertAcknowledged :
    let s (st : AlertState) := withAlert up 15 { AlertRec.reset with state := st, kind := some .transit, occurrences := 255 }
    ((s .activeUnacked).alert 15).state = .activeUnacked ∧ (255 : Byte).toNat = ((s .activeUnacked).alert 15).occurrences
    ∧ ((s .clearedUnacked).alert 15).state = .clearedUnacked
    ∧ (254 : Byte).toNat ≠ ((s .activeUnacked).alert 15).occurrences ∧ ((s .activeAcked).alert 15).state = .activeAcked
    ∧ (up.alert 15).state = .idle ∧ (15 : Byte).toNat = (15 : Port).val ∧ 16 ≤ (16 : Byte).toNat := by
  decide +kernel

/-- Jobs named by slot and by pair. -/
theorem witness_HoldAndRelease :
    (ask busy [2, 0, 127, 0, 0]).namedJob false (jobRef 0 127 0 0) = .ok 127
    ∧ (ask busy [3, 1, 1, 0, 7]).namedJob false (jobRef 1 1 0 7) = .ok 127 ∧ (1 : Byte).toNat ≤ 1
    ∧ (busy.slot 127).isSome = true
    ∧ busy.claimPort 127 = some 15 ∧ ((busy.port 15).state = .running ∧ (busy.port 15).executing = true
        ∧ (busy.port 15).endSent = false) :=
  ⟨by rfl, by rfl, by decide, rfl, by decide +kernel, by decide +kernel⟩

/-- The laws of the intake unit do not speak of the control buffer. -/
theorem ask_intake {s : State} (h : s.IntakeLegal) (pl : List Byte) : (ask s pl).IntakeLegal :=
  ⟨h.held, h.once, h.receiving, h.shut, h.opened, h.waits, h.room, h.granted, h.front, h.mine, h.sizes, h.marks,
    h.payloads, h.stalled, h.timer⟩

theorem witness_JobsStopped :
    (ask queued [4, 0, 127, 0, 0]).namedJob false (jobRef 0 127 0 0) = .ok 127 ∧ queued.live 127 = some job
    ∧ job.cancel = none ∧ queued.runOpenFor 127 = false ∧ busy.runOpenFor 127 = true ∧ (busy.live 127).isSome = true
    ∧ (ask filling [4, 0, 0, 0, 0]).namedJob false (jobRef 0 0 0 0) = .ok 0
    ∧ (withJob queued 127 { job with cancel := some .station }).live 127 = some { job with cancel := some .station }
    ∧ (ask filling [7]).Asks (ctl [7]) [7] ∧ (ask filling [7]).IntakeLegal :=
  ⟨by rfl, rfl, rfl, by decide +kernel, by decide +kernel, rfl, by rfl, rfl, ask_asks filling [7] (by decide) rfl,
    ask_intake witness_filling_intake [7]⟩

/-- Port 14 is eligible too, with an empty queue and with a full one. -/
def twoPorts (q : List JobSlot) : State :=
  { withPort queued 14 readyPort with
    table := tset queued.table 14 { PortEntry.reset with finisher := some 0 }
    binder := { queued.binder with
      routes := tset queued.binder.routes 63 0xC000, queues := tset queued.binder.queues 14 q } }

theorem witness_MoveAndReexamination :
    (15 : Byte).toNat = (15 : Port).val ∧ (14 : Byte).toNat = (14 : Port).val ∧ (0 : Byte).toNat ≤ 1
    ∧ (ask (twoPorts []) [5, 0, 127, 0, 0, 14]).namedJob false (jobRef 0 127 0 0) = .ok 127
    ∧ (busy.slot 127).map (fun r => r.phase) = some .claimed ∧ queued.slot 127 = some job ∧ job.phase = .queued
    ∧ job.boundPort = some 15 ∧ queued.eligible job 14 = false
    ∧ (twoPorts (List.replicate 8 0)).eligible job 14 = true ∧ 8 ≤ ((twoPorts (List.replicate 8 0)).queue 14).length
    ∧ (twoPorts (List.replicate 7 0)).eligible job 14 = true ∧ ((twoPorts (List.replicate 7 0)).queue 14).length < 8 :=
  ⟨rfl, rfl, by decide, by rfl, by decide +kernel, rfl, rfl, rfl, by decide +kernel, by decide +kernel, by decide +kernel,
    by decide +kernel, by decide +kernel⟩

/-- A job on the unbound list that port 15 can take. -/
def unboundJob : State :=
  { withJob shop 0 { rcv with intake := .complete, expected := none } with
    binder := { shop.binder with unbound := [0] } }

theorem witness_MoveAndReexamination_unbound :
    (ask unboundJob [5, 0, 0, 0, 0, 15]).namedJob false (jobRef 0 0 0 0) = .ok 0
    ∧ (unboundJob.slot 0).map (fun r => r.phase) = some .unbound ∧ (∀ q, (0 : JobSlot) ∉ unboundJob.queue q)
    ∧ unboundJob.binder.unbound = 0 :: [] ∧ unboundJob.binder.unbound.Nodup
    ∧ (unboundJob.slot 0).bind unboundJob.bestPort = some 15 := by
  refine ⟨by rfl, ?_, ?_, ?_, ?_, ?_⟩ <;> decide +kernel

/-- Port 15 is eligible, and no longer when it is disabled, ABSENT or without an identity, or when the class, the
capabilities or the finisher do not fit. -/
theorem witness_MoveAndReexamination_eligible :
    queued.eligible job 15 = true ∧ queued.eligible { job with dest := 0 } 15 = false
    ∧ (withPort queued 15 { readyPort with state := .absent }).eligible job 15 = false
    ∧ (withPort queued 15 { readyPort with identity := none }).eligible job 15 = false
    ∧ (withPort queued 15 { readyPort with identity := some { printer with media := 1 } }).eligible job 15 = false
    ∧ ({ queued with table := tset queued.table 15 { PortEntry.reset with enabled := false, finisher := some 3 } } :
        State).eligible job 15 = false
    ∧ ({ queued with table := tset queued.table 15 PortEntry.reset } : State).eligible job 15 = false
    ∧ ({ queued with table := tset queued.table 15 PortEntry.reset } : State).eligible { job with finishing := .noFinish } 15
        = true
    ∧ queued.bestPort job = some 15 := by
  decide +kernel

theorem witness_PrioritySet :
    (ask queued [6, 0, 127, 0, 0, 4]).namedJob false (jobRef 0 127 0 0) = .ok 127 ∧ queued.slot 127 = some job
    ∧ (127 : JobSlot) ∈ queued.queue 15 ∧ (∀ q, 127 ∈ queued.queue q → q = 15) ∧ (127 : JobSlot) ∉ queued.queue 0 :=
  ⟨by rfl, rfl, by decide +kernel, by decide +kernel, by decide +kernel⟩

/-- The claimed job of port 15 holds lock 3, and the write would change its unit; an unclaimed finishing job queued. -/
theorem witness_PortTableWritten :
    (15 : Byte).toNat = (15 : Port).val ∧ (1 : Byte).toNat ≤ 1 ∧ busy.claimHoldsLock 15 = true
    ∧ (busy.entry 15).finisher = some 3 ∧ shop.claimHoldsLock 15 = false ∧ shop.idle 15 = true
    ∧ queued.claimHoldsLock 15 = false ∧ queued.queue 15 = [127] ∧ queued.slot 127 = some job
    ∧ job.finishing ≠ .noFinish ∧ queued.claim 15 = none := by
  decide +kernel

/-- Port 15 in each state. -/
def inState (st : PortState) (out : Option Command) : State :=
  withPort shop 15 { readyPort with state := st, outstanding := out }

theorem witness_PortProbed : ∀ st, ((inState st none).port 15).state = st := by intro st; cases st <;> rfl

theorem witness_PortsManaged :
    (15 : Byte).toNat = (15 : Port).val ∧ (∀ st, ((inState st none).port 15).state = st)
    ∧ (shop.claim 15 = none ∧ shop.queue 15 = [] ∧ queued.queue 15 = [127] ∧ (queued.port 15).state = .ready)
    ∧ ((busy.port 15).state = .running ∧ (busy.port 15).executing = true ∧ (busy.port 15).endSent = false
        ∧ (busy.port 15).runOpen = true) :=
  ⟨rfl, witness_PortProbed, ⟨rfl, rfl, rfl, rfl⟩, rfl, rfl, rfl, rfl⟩

/-- The claimed job of a port that is reset goes on, or is cancelled and ends; a port goes OFFLINE with a queue. -/
theorem witness_PortsManaged_claim :
    (busy.claim 15 = some 127 ∧ busy.live 127 = busy.slot 127 ∧ ∀ q, busy.claim q = some 127 → q = 15)
    ∧ (∃ x, busy.live 127 = some x ∧ x.GoesOn)
    ∧ (∃ x, (withJob busy 127 { job with phase := .claimed, cancel := some .management }).live 127 = some x ∧ ¬ x.GoesOn)
    ∧ ((queued.port 15).state = .ready ∧ queued.claim 15 = none ∧ queued.queue 15 = [127])
    ∧ (let s := runs { readyPort with state := .faulted }
      (s.port 15).state = .faulted ∧ s.claim 15 = some 127 ∧ s.queue 15 = [127]) := by
  refine ⟨by decide +kernel, ⟨_, rfl, by unfold Job.GoesOn; decide⟩, ⟨_, rfl, by unfold Job.GoesOn; decide⟩,
    ⟨rfl, rfl, rfl⟩, rfl, rfl, rfl⟩

theorem witness_RouteAndRateWritten : (63 : Byte).toNat = (63 : DestClass).val ∧ (15 : Byte).toNat = (15 : Media).val :=
  ⟨rfl, rfl⟩

theorem witness_AccountsWritten :
    (1 : Byte).toNat = (1 : Account).val ∧ (1 : Byte).toNat ≤ 1
    ∧ ((busy.account 1).unlimited ≠ decide ((1 : Byte) ≠ 0) ∧ 0 < (busy.account 1).inFlight)
    ∧ (busy.account 1).unlimited = decide ((0 : Byte) ≠ 0) ∧ (shop.account 1).inFlight = 0 := by
  decide +kernel

/-! ## States that meet the hypotheses of the statements: the meter -/

theorem witness_SheetCost : (4095 : Nat) ≤ 4095 ∧ (255 : Nat) ≤ 255
    ∧ (1 : Nat) * 1 ≠ 0 ∧ (SideMode.blank = .blank) := by decide

theorem witness_MeterMoves :
    let other := withJob busy 0 { arriving with account := 2 }
    (∃ j, busy.slot flight.job = some j ∧ j.account = 1) ∧ (flight.costReserved = true ∧ 0 < flight.cost)
    ∧ ({ flight with cost := 0 } : InFlight).cost = 0 ∧ (up.account 0).unlimited = true
    ∧ (shop.account 1).lowThreshold = 0 ∧ (shop.account 1).unlimited = false
    ∧ 0 < ({ shop.account 1 with lowThreshold := 1 } : AccountRec).lowThreshold
    ∧ other.slot 0 = some { arriving with account := 2 }
    ∧ (∃ x, (other.releaseReservation flight).live 127 = some x ∧ x.account = 1) :=
  ⟨⟨_, rfl, rfl⟩, by decide, rfl, rfl, rfl, rfl, by decide, rfl, _, rfl, rfl⟩

theorem witness_PeriodTimers :
    ({ AlertRec.reset with repeatTimer := some 30000 } : AlertRec).repeatTimer ≠ none ∧ busy.Stored
    ∧ busy.meter.periodTimer ≠ none :=
  ⟨by decide, ⟨by decide +kernel, by decide +kernel, rfl, rfl⟩, by decide⟩

/-! ## States that meet the hypotheses of the statements: printers and runs -/

/-- A valid identity at path depth 4, resting or not; one with path depth 0. -/
def identity (cap depth : Byte) : IdentityBytes := ⟨5, cap, 0xFFFF, depth⟩

theorem witness_ProbeAnswered :
    (up.port 15).state = .probing ∧ (up.port 15).outstanding = some .probe ∧ (shop.port 15).outstanding ≠ some .probe
    ∧ (∃ i, decodeIdentity (identity 7 4) = some (i, false)) ∧ (∃ i, decodeIdentity (identity 15 1) = some (i, true))
    ∧ decodeIdentity (identity 7 0) = none ∧ decodeIdentity (identity 7 5) = none
    ∧ (127 : JobSlot) ∈ queued.queue 15 ∧ (queued.slot 127).isSome = true :=
  ⟨by decide +kernel, by decide +kernel, by decide +kernel, ⟨_, rfl⟩, ⟨_, rfl⟩, by decide, by decide, by decide +kernel, rfl⟩

/-- A queued job that the new identity does not cover. -/
theorem witness_ProbeAnswered_uncovered :
    (∃ i, decodeIdentity (identity 1 4) = some (i, false) ∧ identityFits i (queued.entry 15) job = false)
    ∧ identityFits printer (queued.entry 15) job = true ∧ queued.queue 15 = [127] :=
  ⟨⟨_, rfl, by decide +kernel⟩, by decide +kernel, rfl⟩

/-- Each command outstanding in the states where its answer acts; each condition of a sense result. -/
theorem witness_SenseWarmRestAnswered :
    (∀ st, ∀ c ∈ [Command.sense, .warm, .rest, .probe], ((inState st (some c)).port 15).state = st
      ∧ ((inState st (some c)).port 15).outstanding = some c)
    ∧ (shop.port 15).outstanding = none ∧ (shop.port 15).outstanding ≠ some .sense
    ∧ senseCondition 0 = .noCondition ∧ (senseCondition 1).alert = some (.jam, some .feed)
    ∧ (senseCondition 9).alert = some (.engineFault, none) := by
  refine ⟨?_, by decide +kernel, by decide +kernel, by decide, by decide, by decide⟩
  intro st c hc
  fin_cases hc <;> cases st <;> exact ⟨rfl, rfl⟩

/-- Port 15 runs the job of slot 127, whose cursor stands on the sheet of block 0. -/
def feeding : State := runs runPort

theorem witness_FeedAttempted :
    queued.mayFeed 15 = false ∧ feeding.mayFeed 15 = true ∧ feeding.claim 15 = some 127
    ∧ feeding.slot 127 = some { job with phase := .claimed } ∧ job.feed.next = some 0
    ∧ (feeding.blockLink 0).sheet = some ⟨1, .mono, .blank, 15, 1⟩ ∧ (feeding.account 1).covers 10 = true
    ∧ (feeding.account 1).covers 11 = false ∧ ((feeding.port 15).endSent = false) := by
  decide +kernel

/-- Fed to its end position; fed, and the path full; fed, and it may still feed; the cursor on no sheet, nothing in
flight. -/
theorem witness_FeedAttempted_ends :
    let once : Job := { job with phase := .claimed, copies := 1 }
    let e : InFlight := ⟨0, 127, 1, 1, 0, 0, 1, true, false, none, none⟩
    let next : Job := { job with phase := .claimed, feed := ⟨.at 2 1, some 0⟩ }
    let fed (i : Identity) := withJob (runs { runPort with
      identity := some i, inFlight := [e], tagCounter := 1, sheetsFed := 1 }) 127 next
    ((withJob feeding 127 once).mayFeed 15 = true ∧ once.feed.pos = .at 1 once.received ∧ once.intake = .complete
      ∧ ¬ 1 < once.copies)
    ∧ (job.feed.pos = .at 1 job.received ∧ 1 < job.copies ∧ (fed { printer with pathDepth := 1 }).mayFeed 15 = false
      ∧ (fed printer).mayFeed 15 = true)
    ∧ ({ rcv with received := 1, feed := ⟨.at 1 1, some 0⟩ } : Job).intake = .receiving
    ∧ (let dry := withJob feeding 127 { job with phase := .claimed, feed := ⟨.endPos, none⟩ }
      (dry.port 15).inFlight = [] ∧ dry.claim 15 = some 127 ∧ (dry.live 127).map (fun x => x.feed.next) = some none) := by
  decide +kernel

/-- A run whose RUN is not yet answered; a held job; a held block of the sheet in flight; entries picked and not. -/
theorem witness_RunReports :
    let r := { runPort with executing := false }
    ((runs r).port 15).outstanding = some .run ∧ ((runs r).port 15).executing = false
    ∧ ((runs r).port 15).state = .running ∧ (runs r).claim 15 = some 127
    ∧ (runs r).live 127 = some { job with phase := .claimed }
    ∧ ({ job with held := true } : Job).held = true ∧ job.held = false ∧ job.cancel = none
    ∧ job.feed.next ≠ none ∧ ((runs r).port 15).offlinePending = false
    ∧ (busy.port 15).outstanding = some .run ∧ (busy.port 15).executing = true
    ∧ (∃ e ∈ (busy.port 15).inFlight, e.tag = (⟨0, 255, [7]⟩ : HeldBlock).owner)
    ∧ ((busy.port 15).buffer = [] ∧ (busy.port 15).pendingDemand = false ∧ busy.unsent 15 = true)
    ∧ ((busy.port 15).inFlight = [] ++ flight :: [] ∧ flight.picked = false ∧ ∀ x ∈ ([] : List InFlight), x.tag ≠ 255)
    ∧ (∀ e ∈ (busy.port 15).inFlight, e.tag = 254 → e.picked = true) := by
  refine ⟨rfl, rfl, rfl, rfl, rfl, rfl, rfl, rfl, by decide, rfl, rfl, rfl, ⟨flight, by decide +kernel, rfl⟩,
    by decide +kernel, ⟨rfl, rfl, by decide⟩, by decide +kernel⟩

/-- TAKEN with the cursor on no sheet; REFUSE with offline pending and with a cancelled claimed job; a DEMAND while the
front block belongs to the next sheet. -/
theorem witness_RunReports_more :
    let r := { runPort with executing := false }
    let ends : Job := { job with phase := .claimed, feed := ⟨.endPos, none⟩ }
    ((withJob (runs r) 127 ends).live 127 = some ends ∧ ends.feed.next = none ∧ r.inFlight = [] ∧ r.endSent = false)
    ∧ (((runs { r with offlinePending := true }).port 15).offlinePending = true
      ∧ ∀ q, (runs r).claim q = some 127 → q = 15)
    ∧ (let gone : Job := { job with phase := .claimed, cancel := some .management }
      (withJob (runs r) 127 gone).live 127 = some gone ∧ ¬ gone.GoesOn ∧ job.GoesOn)
    ∧ (let s := withPort busy 15 { busy.port 15 with buffer := [⟨0, 0, [7]⟩] }
      (s.port 15).executing = true ∧ (∀ e ∈ (s.port 15).inFlight, e.tag ≠ 0) ∧ (s.port 15).pendingDemand = false
      ∧ ∃ e ∈ (s.port 15).inFlight, e.sent < s.sheetCount e.first) := by
  refine ⟨⟨rfl, rfl, rfl, rfl⟩, ⟨rfl, by decide +kernel⟩,
    ⟨rfl, by unfold Job.GoesOn; decide, by unfold Job.GoesOn; decide⟩, rfl, by decide +kernel, rfl, flight,
    by decide +kernel, by decide +kernel⟩

/-- The exit of the oldest entry, and of one with an older one before it. -/
theorem witness_ExitTaken :
    let old : InFlight := { flight with tag := 254 }
    let r := { runPort with inFlight := [old, flight], sheetsFed := 2 }
    (busy.port 15).executing = true ∧ (busy.port 15).Counted ∧ (busy.port 15).inFlight = [] ++ flight :: []
    ∧ (busy.port 15).state = .running ∧ (busy.port 15).haltSent = false ∧ (busy.slot 127).isSome = true
    ∧ job.confirm = .at flight.copy flight.sheet ∧ job.intake = .complete ∧ flight.sheet = job.received
    ∧ r.Counted ∧ r.inFlight = [old] ++ flight :: []
    ∧ (shop.port 15).executing = false ∧ ∀ e ∈ (busy.port 15).inFlight, e.tag ≠ 254 := by
  refine ⟨rfl, ?_, rfl, rfl, rfl, rfl, rfl, rfl, rfl, ?_, rfl, by decide +kernel, by decide +kernel⟩
  all_goals constructor <;> decide +kernel

/-- A release-behind job of one copy, whose confirm cursor stands on the sheet in flight. -/
theorem witness_ExitTaken_releaseBehind :
    let r : Job := { job with phase := .claimed, copies := 1, releaseBehind := true, feed := ⟨.endPos, none⟩ }
    (withJob busy 127 r).slot flight.job = some r ∧ r.confirm = .at flight.copy flight.sheet ∧ r.head = some 0
    ∧ ((withJob busy 127 r).blockLink 0).sheet.isSome = true := by
  decide +kernel

/-- A port in ENDING with an older entry; a sheet that the confirm cursor does not stand on; one that is not the last. -/
theorem witness_ExitTaken_older :
    let old : InFlight := { flight with tag := 254 }
    let s := withPort busy 15 { runPort with state := .ending, inFlight := [old, flight], sheetsFed := 2 }
    ((s.port 15).executing = true ∧ (s.port 15).Counted ∧ (s.port 15).inFlight = [old] ++ flight :: []
      ∧ (s.port 15).state ≠ .running ∧ (s.slot flight.job).isSome = true)
    ∧ job.confirm ≠ .at ({ flight with copy := 2 } : InFlight).copy flight.sheet
    ∧ flight.sheet ≠ ({ job with received := 2 } : Job).received := by
  refine ⟨⟨by decide +kernel, ?_, by decide +kernel, by decide +kernel, by decide +kernel⟩, by decide, by decide⟩
  constructor <;> decide +kernel

theorem witness_ResultTaken :
    (shop.port 15).executing = false ∧ (busy.port 15).executing = true ∧ (busy.port 15).Counted
    ∧ busy.claim 15 = some 127 ∧ (0 : Byte).toNat < ({ runPort with goodExits := 1 } : PortRec).goodExits
    ∧ after (.result 15 ⟨1, 2, 0, 0, 1, 255⟩) busy (fun t => (t.live 127).isSome) = true := by
  refine ⟨by decide +kernel, rfl, ?_, rfl, by decide, by decide +kernel⟩
  constructor <;> decide +kernel

/-- A result whose good count catches up the entry in flight of the claimed job; a port with offline pending. -/
theorem witness_ResultTaken_caught :
    let x : ResultBytes := ⟨1, 2, 1, 0, 1, 255⟩
    min (busy.port 15).inFlight.length (x.good.toNat - (busy.port 15).goodExits) = 1
    ∧ (∀ e ∈ (busy.port 15).inFlight, e.job = 127) ∧ (∀ q, busy.claim q = some 127 → q = 15)
    ∧ (busy.live 127).isSome = true
    ∧ ((withPort busy 15 { busy.port 15 with offlinePending := true }).port 15).offlinePending = true := by
  decide +kernel

theorem witness_ReadyChanged :
    (∀ st, ((inState st none).port 15).state = st) ∧ senseCondition 0 = .noCondition
    ∧ (senseCondition 4).alert = some (.mediaOut, none) ∧ (busy.port 15).state = .running
    ∧ (busy.port 15).executing = true ∧ (feeding.port 15).state = .running :=
  ⟨witness_PortProbed, by decide, by decide, rfl, rfl, rfl⟩

/-- Each timer running in the state that starts it. -/
def timed (st : PortState) (f : PortRec → PortRec) : PortRec := f { readyPort with state := st }

theorem witness_CommandTimers :
    (timed .ready fun r => { r with standbyTimer := some 1 }).standbyTimer ≠ none
    ∧ ((timed .waking fun r => { r with warmTimer := some 1 }).warmTimer ≠ none
      ∧ (timed .waking fun r => { r with warmTimer := some 1 }).state = .waking)
    ∧ ((timed .waking fun r => { r with senseRetryTimer := some 1 }).senseRetryTimer ≠ none
      ∧ (timed .waking fun r => { r with senseRetryTimer := some 1 }).state = .waking)
    ∧ ((timed .faulted fun r => { r with faultPollTimer := some 1 }).faultPollTimer ≠ none
      ∧ (timed .faulted fun r => { r with faultPollTimer := some 1 }).state = .faulted)
    ∧ ((timed .absent fun r => { r with absentProbeTimer := some 1 }).absentProbeTimer ≠ none
      ∧ (timed .absent fun r => { r with absentProbeTimer := some 1 }).state = .absent) := by
  decide

/-- The port is idle after the event, and was or was not before it; a port that is not idle. -/
theorem witness_CommandTimers_idle :
    (State.closing shop shop).idle 15 = true ∧ shop.idle 15 = true ∧ (withPort shop 15 PortRec.reset).idle 15 = false
    ∧ (State.closing (withPort shop 15 PortRec.reset) shop).idle 15 = true ∧ (State.closing shop shop).idle 0 = false := by
  decide +kernel

theorem witness_FaultTimers :
    ((up.port 15).answerTimer ≠ none ∧ (up.port 15).state = .probing)
    ∧ (({ runPort with endTimer := some 30000 } : PortRec).endTimer ≠ none ∧ runPort.state ≠ .probing
      ∧ runPort.runOpen = true)
    ∧ ((timed .waking fun r => { r with warmLimitTimer := some 1 }).warmLimitTimer ≠ none
      ∧ (timed .waking fun r => { r with warmLimitTimer := some 1 }).state = .waking)
    ∧ (([{ flight with transit := some 20000 }].find? fun x => decide (x.tag = 255))
        = some { flight with transit := some 20000 } ∧ ({ flight with transit := some 20000 } : InFlight).transit ≠ none)
    ∧ ({ runPort with gapTimer := some 3000 } : PortRec).gapTimer ≠ none := by
  refine ⟨by decide +kernel, by decide, by decide, ⟨rfl, by decide⟩, by decide⟩

/-- NO-ANSWER of a port with a claimed job in its queue, in a run and, with offline pending, after it. -/
theorem witness_FaultTimers_queue :
    (∀ off ∈ [false, true],
      let s := runs { runPort with executing := false, answerTimer := some 1, offlinePending := off }
      (s.port 15).answerTimer ≠ none ∧ (s.port 15).state ≠ .probing ∧ (s.port 15).runOpen = true
      ∧ s.claim 15 = some 127 ∧ s.queue 15 = [127] ∧ ∀ q, s.claim q = some 127 → q = 15) := by
  decide +kernel

/-! ## Single commands, with the results the spec's rules give -/

/-- R27, R34: the first frame after link up is FLOW GO, code 2. -/
theorem test_link_up_sends_go : after .linkUp State.reset (fun t => t.link.state = .up ∧ sent t = [2]) = true := by
  decide +kernel

/-- R26: the reply queue is emptied at link down. -/
theorem test_link_down_empties :
    after .linkDown { up with link := { up.link with replies := [⟨0, 0, 0, [1]⟩] } }
      (fun t => t.link.state = .down ∧ t.link.replies = [] ∧ t.link.lastFlow = none) = true := by decide +kernel

/-- R28: a frame whose check is wrong is dropped with FRAME-CHECK. -/
theorem test_frame_with_wrong_check : after (.frameArrives [6, 0, 0, 0, 0, 9, 0, 1, 7, 0, 0]) up
    (fun t => t.link.flags.frameCheck = true ∧ t.link.controlBuf = []) = true := by decide +kernel

/-- R30: a CONTROL frame, PURGE from station 0, joins the control buffer. -/
theorem test_control_frame_joins : after (.frameArrives (bytesOf (ctl [7]))) up
    (fun t => t.link.controlBuf = [ctl [7]]) = true := by decide +kernel

/-- R48: OPEN is answered ACCEPT-CLAMPED with its slot, and bound to port 15. -/
theorem test_open_accepts : after .openFrame (front shop (opening 1))
    (fun t => sent t = [17, 0, 0] ∧ t.queue 15 = [0] ∧ t.binder.bindOrder = [0]) = true := by decide +kernel

/-- R46: OPEN of a CLOSED account is refused NO-ACCOUNT. -/
theorem test_open_refused : after .openFrame (front shop (opening 2)) (fun t => sent t = [18, 4, 0]) = true := by
  decide +kernel

/-- R66: the accepted job of priority 1 stands behind priority 0 and before priority 3. -/
theorem test_open_joins_queue : after .openFrame
    (front lined ⟨.openK, 1, 10, 0, 0, [1, 63, 1, 0, 1, 0, 0, 0xFF, 0xFF]⟩)
    (fun t => t.queue 15 = [126, 0, 127, 125] ∧ t.binder.bindOrder = [127, 126, 125, 0]) = true := by decide +kernel

/-- R49: DATA opens a sheet in the lowest block of the pool. -/
theorem test_data_opens_sheet :
    after .dataFrame (taking rcv ⟨127, none, 0, 0⟩ [] [9, 10] (jf .dataK 255 [1, 2]))
      (fun t => t.spool.pool = [10] ∧ t.intake.writeList = [.write 127 9 0 [1, 2] false]
        ∧ (t.slot 127).map (fun r => r.expected) = some (some 0)) = true := by decide +kernel

/-- R45: a sequence that is not expected breaks the job, and the job, which has no run, ends. -/
theorem test_gap_ends_job : after .dataFrame (taking rcv ⟨127, none, 0, 0⟩ [] [9] (jf .dataK 0 [1]))
    (fun t => t.slot 127 = none ∧ (t.link.tx.map OutFrame.kind) = some .noticeK) = true := by decide +kernel

/-- R51: a COLOR side, a side 2 and a media class that the job has not declared, a mode and a class that are unknown, and
a sheet beyond the count. -/
theorem test_mark_refused :
    (let r : Job := { rcv with needs := ⟨false, false, 0x7FFF⟩ }
    [[2, 0, 0], [1, 1, 0], [1, 0, 15], [3, 0, 0], [1, 0, 16], [1, 0]].all (fun pl => (markValues r pl).isNone) = true
      ∧ markValues r [1, 0, 14] = some (.mono, .blank, 14))
    ∧ markValues { rcv with received := 65535 } [2, 1, 0] = none := by decide

/-- R50: the write's bytes reach spool memory at block 9, offset 3. -/
theorem test_write_completes :
    after .writeCompletes { shop with
        intake := { shop.intake with writeList := [.write 127 9 3 [0xAB, 0] false] }
        spool := { shop.spool with granted := some .write } }
      (fun t => t.spool.mem = [(9 * 2048 + 3, 0xAB)] ∧ (t.blockLink 9).fill = 2) = true := by decide +kernel

/-- R108, R50: the writer's next write waits for the fetch that waited before, although the writer's rank is lower. -/
theorem test_completed_writer_waits : after .writeCompletes
    (withPort filling 15 { filling.port 15 with fetch := some ⟨0, 255, false, false⟩ })
      (fun t => t.spool.granted = some (.fetch 15 0) ∧ t.intake.writeList.length = 1) = true := by decide +kernel

/-- R101, R102: a READY port claims its job and starts a run when the job is released. -/
theorem test_release_starts_run :
    after .release (ask (withJob queued 127 { job with held := true }) [3, 0, 127, 0, 0])
      (fun t => t.claim 15 = some 127 ∧ (t.port 15).outstanding = some .run ∧ t.lock 3 = .job 127 15
        ∧ t.pressOut.getLast? = some (15, .run)) = true := by decide +kernel

/-- R119: HOLD of a running job sends END. -/
theorem test_hold_sends_end : after .hold (ask busy [2, 0, 127, 0, 0])
    (fun t => (t.port 15).state = .ending ∧ (t.port 15).endTimer = some 30000) = true := by decide +kernel

/-- R114, R141: a GOOD exit charges the reserved cost and passes the confirm cursor to the second copy. -/
theorem test_good_exit_charges : after (.exit 15 255 0)
      (withPort busy 15 { busy.port 15 with endSent := true, state := .ending })
    (fun t => (t.account 1).balance = 9 ∧ (t.account 1).reserved = 0 ∧ (t.account 1).chargedTotal = 1
      ∧ (t.port 15).sheetsGood = 1 ∧ (t.slot 127).map (fun r => r.confirm) = some (.at 2 1)
      ∧ (t.slot 127).map (fun r => r.copiesDone) = some 1) = true := by decide +kernel

/-- R117, R142: a result that counts no sheet good spoils the sheet in flight and returns its cost. -/
theorem test_result_spoils : after (.result 15 ⟨1, 2, 0, 0, 1, 255⟩) busy
    (fun t => (t.port 15).state = .faulted ∧ (t.port 15).sheetsSpoiled = 1 ∧ (t.account 1).reserved = 0
      ∧ (t.account 1).balance = 10 ∧ (t.alert 15).kind = some .jam ∧ (t.alert 15).position = some (1, 1)) = true := by
  decide +kernel

/-- R103, R138: the answer TAKEN to RUN begins execution, and the first sheet is fed with tag 0. -/
theorem test_taken_feeds : after (.taken 15) (runs { runPort with
        executing := false, answerTimer := some 250, identity := some { printer with pathDepth := 1 } })
    (fun t => (t.port 15).inFlight.map (fun e => e.tag) = [0] ∧ (t.account 1).reserved = 1
      ∧ (t.port 15).tagCounter = 1) = true := by decide +kernel

/-- R97: a report outside a run is a stray report. -/
theorem test_stray_demand : after (.demand 15) shop (fun t => (t.port 15).strays = 1) = true := by decide +kernel

/-- R86: a valid identity brings the port to READY; here its standby timer starts for 240 minutes (R88). -/
theorem test_identity_ready : after (.identityResult 15 (identity 7 4)) (withPort shop 15 PortRec.reset)
    (fun t => (t.port 15).state = .ready ∧ (t.port 15).identity = some ⟨5, true, true, 0xFFFF, 4, true⟩
      ∧ (t.port 15).standbyTimer = some 14400000) = true := by decide +kernel

/-- R86: a REFUSE of PROBE brings the port to ABSENT, to be probed again in 10 seconds. -/
theorem test_probe_refused : after (.refuse 15) State.reset
    (fun t => (t.port 15).state = .absent ∧ (t.port 15).absentProbeTimer = some 10000) = true := by decide +kernel

/-- R88: the standby timer's expiry sends REST with the entry's rest mode. -/
theorem test_standby_sends_rest :
    after (.standbyTimerExpiry 15) (withPort shop 15 { readyPort with standbyTimer := some 1 })
      (fun t => (t.port 15).outstanding = some .rest ∧ t.pressOut.getLast? = some (15, .rest .light)) = true := by
  decide +kernel

/-- R93, R154: an unanswered SENSE in READY takes the port to ABSENT with an alert. -/
theorem test_no_answer : after (.answerTimerExpiry 15)
      (withPort shop 15 { readyPort with outstanding := some .sense, answerTimer := some 250 })
    (fun t => (t.port 15).state = .absent ∧ (t.alert 15).kind = some .noAnswer ∧ (t.alert 15).occurrences = 1
      ∧ (t.alert 15).state = .activeUnacked) = true := by decide +kernel

/-- R129: a lock that a job holds is answered HELD with its holder. -/
theorem test_finisher_lock_held : after .finisherLock (ask busy [23, 3])
    (fun t => sent t = [12, 23, 2, 127, 1, 0, 7, 15] ∧ t.lock 3 = .job 127 15) = true := by decide +kernel

/-- R130, R127: a management hold's release grants the lock to the contending job. -/
theorem test_unlock_grants : after .finisherUnlock (ask (withLock queued 3 .management) [24, 3])
    (fun t => t.lock 3 = .job 127 15 ∧ t.claim 15 = some 127) = true := by decide +kernel

/-- R127: the lower priority number takes the lock; of equal priorities the job that was bound first. -/
theorem test_unlock_ranks :
    after .finisherUnlock (ask (withLock (rivals 0) 3 .management) [24, 3])
      (fun t => t.lock 3 = .job 126 14 ∧ t.claim 15 = none) = true
    ∧ after .finisherUnlock (ask (withLock (rivals 3) 3 .management) [24, 3])
      (fun t => t.lock 3 = .job 127 15 ∧ t.claim 14 = none) = true := by decide +kernel

/-- R146: a credit past the largest value saturates and is answered CLAMPED. -/
theorem test_credit_saturates : after .accountCredit (ask shop [27, 1, 0xFF, 0xFF, 0xFF, 0xFF])
    (fun t => (t.account 1).balance = 4294967295 ∧ sent t = [1, 27]) = true := by decide +kernel

/-- R147: a balance below what is reserved is stored as reserved. -/
theorem test_balance_clamped : after .accountSetBalance (ask busy [28, 1, 0, 0, 0, 0])
    (fun t => (t.account 1).balance = 1 ∧ sent t = [1, 28]) = true := by decide +kernel

/-- R109: a rank write swaps two ranks. -/
theorem test_rank_swap : after .rankWrite (ask up [21, 16, 0])
    (fun t => tget t.spool.ranks 16 = 0 ∧ tget t.spool.ranks 0 = 16 ∧ tget t.spool.ranks 1 = 1) = true := by
  decide +kernel

/-- R38: no station may lose the last MANAGE. -/
theorem test_last_manage : after .stationWrite (ask up [36, 0, 1, 0, 0])
    (fun t => sent t = [11, 36] ∧ (tget t.control.stations 0).manage = true) = true := by decide +kernel

/-- R183: a form above 1, a rest mode above 1, an account state above 1, a count of 0; R182: a byte too many. -/
theorem test_malformed_requests :
    [[2, 2, 0, 0, 0], [12, 0, 1, 0, 255, 0, 2, 0, 0, 0], [26, 0, 2, 0, 0, 0, 0, 0, 0], [36, 0, 0, 0, 3], [7, 0]].all
      (fun pl => !requestForm pl) = true := by decide

/-- R159: an acknowledgement with another count is STALE. -/
theorem test_stale_ack : after .alertAck (ask (withAlert up 15
      { AlertRec.reset with state := .activeUnacked, kind := some .transit, occurrences := 2 }) [32, 15, 1])
    (fun t => (t.alert 15).state = .activeUnacked ∧ sent t = [8, 32]) = true := by decide +kernel

/-- R178: the shop clock wraps. -/
theorem test_clock_wraps : after .shopClockTick { up with control := { up.control with clock := 0xFFFFFFFF } }
    (fun t => t.control.clock = 0) = true := by decide +kernel

/-- R148: the period of an account with sheets is reported and cleared. -/
theorem test_meter_period : after .meterPeriodTimerExpiry { up with
      notices := { up.notices with mask := ⟨true, true, true, false⟩ }
      meter := { up.meter with
        accounts := tset up.meter.accounts 255 { AccountRec.reset with periodSheets := 3, periodUnits := 40 } } }
    (fun t => t.notices.reports = [(255, ⟨3, 40, 1⟩)] ∧ (t.account 255).periodSheets = 0
      ∧ t.meter.periodTimer = some 3600000) = true := by decide +kernel

/-- R53, R15: CLOSE closes the open sheet as the second of the job, and the port feeds it at once. -/
theorem test_close_feeds :
    let c := jf .closeK 255 []
    let s := withPort (earlyRun [] c) 15 { runPort with identity := some { printer with pathDepth := 1 } }
    after .closeFrame { s with
        intake := { s.intake with slots := tset s.intake.slots 7 (some ⟨127, some 1, 1, 5⟩) } }
      (fun t => (t.port 15).inFlight.map (fun e => e.sheet) = [2] ∧ (t.blockLink 1).sheet.map (fun x => x.number) = some 2
        ∧ (t.slot 127).map (fun r => (r.intake, r.received)) = some (.complete, 2)) = true := by decide +kernel

/-- R70: the queue of a port that goes OFFLINE is displaced to the front of the unbound list. -/
theorem test_offline_displaces : after .portOffline (ask { withJob queued 0 { rcv with intake := .complete } with
      binder := { queued.binder with unbound := [0], routes := State.reset.binder.routes } } [15, 15])
    (fun t => t.binder.unbound = [127, 0] ∧ t.queue 15 = [] ∧ t.binder.bindOrder = []
      ∧ (t.slot 127).map (fun r => (r.phase, r.boundPort)) = some (.unbound, none)) = true := by decide +kernel

/-- R66: a job that takes a priority held by another stands by its place in the bind order. -/
theorem test_priority_reorders :
    after .priority (ask lined [6, 0, 125, 0, 0, 0]) (fun t => t.queue 15 = [126, 125, 127]) = true
    ∧ after .priority (ask lined [6, 0, 126, 0, 0, 3]) (fun t => t.queue 15 = [127, 126, 125]) = true := by decide +kernel

/-- R91: a REFUSE of RUN faults the port, which keeps its claim. -/
theorem test_run_refused : after (.refuse 15) (runs { runPort with executing := false, answerTimer := some 250 })
    (fun t => (t.port 15).state = .faulted ∧ t.claim 15 = some 127 ∧ t.lock 3 = .job 127 15
      ∧ (t.alert 15).kind = some .engineFault) = true := by decide +kernel

/-- R7, R14, R55: PURGE ends the receiving job, whose granted write is void and whose other write leaves the list. -/
theorem test_purge_voids_write : after .purge (ask filling [7])
    (fun t => t.intake.writeList = [.write 0 1 0 (List.replicate 1024 7) true] ∧ t.jobs.ended = [0]
      ∧ (t.slot 127).map (fun r => r.cancel) = some (some .purge)) = true := by decide +kernel

end Sys2Proof.Tests
end

/-! # Proofs: PORT PROBE by the port's state (R96)

A request that passes tests 1 and 2 of R172 is its body between the frame's departure and the placing of the reply;
PORT PROBE's body is then a choice by the port's state. -/

namespace Sys2Proof.Machine

/-! ## The execution of a well-formed request -/

/-- An index in range is found as itself (R172, test 3). -/
theorem finOf_of_val {n k : Nat} {i : Fin n} (h : k = i.val) : finOf n k = some i := by
  subst h
  exact dif_pos i.isLt

/-- The front frame that asks a request is the one the request's command takes (R32). -/
theorem State.requestFront_of_asks {s : State} {f : Frame} {payload : List Byte} (h : s.Asks f payload) :
    s.requestFront (requestCode payload) = some f := by
  obtain ⟨hfront, hpayload, hroom, -⟩ := h
  obtain ⟨rest, hbuf⟩ := List.head?_eq_some_iff.mp hfront
  simp [State.requestFront, hbuf, hpayload, hroom]

/-- What passes tests 1 and 2 of R172 is its body, run once the frame has left the control buffer, with one reply. -/
theorem State.execute_of_asks {s : State} {f : Frame} {payload : List Byte} (h : s.Asks f payload)
    (hform : requestForm payload = true) (code : Nat) (body : List Byte → State → Answer) :
    s.execute code f body =
      (body payload.tail s.takeControl).state.placeReply
        (controlReply f (body payload.tail s.takeControl).code code (body payload.tail s.takeControl).data) := by
  obtain ⟨-, hpayload, -, hpermits⟩ := h
  simp only [State.execute, hpayload, hpermits, hform, if_true]

/-- A well-formed request that may change jobs or ports is executed as one event (R32, R172). -/
theorem State.runRequest_of_asks {s : State} {f : Frame} {payload : List Byte} (h : s.Asks f payload)
    (hform : requestForm payload = true) (body : List Byte → State → Answer) :
    s.runRequest (requestCode payload) body = .next (State.closing s
      ((body payload.tail s.takeControl).state.placeReply (controlReply f (body payload.tail s.takeControl).code
        (requestCode payload) (body payload.tail s.takeControl).data))) := by
  simp only [State.runRequest, State.requestFront_of_asks h, State.execute_of_asks h hform]

/-- The frame taken and its reply placed, with nothing between, change the link alone. -/
theorem State.placeReply_takeControl (s : State) (r : Reply) :
    s.takeControl.placeReply r = { s with link := s.link.answered r } := rfl

@[simp] theorem State.port_takeControl (s : State) (p : Port) : s.takeControl.port p = s.port p := rfl

/-- A request whose port is in range runs its body on that port (R172, test 3). -/
theorem onPort_of_val {b : Byte} {p : Port} (hp : b.toNat = p.val) (args : List Byte) (s : State)
    (body : Port → Answer) : onPort (b :: args) s body = body p := by
  simp only [onPort, finOf_of_val hp]

/-! ## PORT PROBE -/

/-- The probe of a port: its absent-probe timer stops, it enters PROBING, and PROBE is outstanding and on its way. -/
theorem State.startProbe_eq (s : State) (p : Port) :
    s.startProbe p = { s with
      ports := tset s.ports p ({ s.port p with state := .probing, absentProbeTimer := none }.sends .probe)
      pressOut := s.pressOut ++ [(p, .probe)] } := by
  simp only [State.startProbe, State.sendCommand, State.modPort_modPort]
  rfl

/-- PORT PROBE's answer depends on the named port's state alone (R96). -/
theorem doPortProbe_eq {b : Byte} {p : Port} (hp : b.toNat = p.val) (s : State) :
    doPortProbe [b] s =
      match (s.port p).state with
      | .absent => answer .done (s.startProbe p)
      | .probing | .waking | .running | .ending => answer .busy s
      | .offline | .standby | .ready | .faulted => answer .badRequest s :=
  onPort_of_val hp [] s _

/-- PORT PROBE of a port is the answer of `doPortProbe` with its reply, as one event. -/
theorem exec_portProbe {s : State} {f : Frame} {b : Byte} (h : s.Asks f [17, b]) :
    exec .portProbe s = .next (State.closing s
      ((doPortProbe [b] s.takeControl).state.placeReply (controlReply f (doPortProbe [b] s.takeControl).code 17
        (doPortProbe [b] s.takeControl).data))) :=
  State.runRequest_of_asks h rfl doPortProbe

/-- PORT PROBE whose body answers a code and changes nothing is refused with that code. -/
theorem refused_portProbe {s : State} {f : Frame} {b : Byte} {why : ReplyCode} (h : s.Asks f [17, b])
    (hans : doPortProbe [b] s.takeControl = answer why s.takeControl) : Refused .portProbe 17 s f why := by
  refine ⟨_, rfl, .inr ?_⟩
  rw [exec_portProbe h, hans]
  rfl

/-- Settles O46: the port's state chooses the answer, and each answer's effect is that of the request's execution. -/
theorem portProbed : Obligations.PortProbed := by
  intro s f b p hp h
  have hans := doPortProbe_eq hp s.takeControl
  rw [State.port_takeControl] at hans
  refine ⟨fun absent => ?_, fun busy => refused_portProbe h ?_, fun barred => refused_portProbe h ?_⟩
  · rw [absent] at hans
    rw [exec_portProbe h, hans, State.startProbe_eq]
    rfl
  · obtain hst | hst | hst | hst := busy <;> rw [hans, hst]
  · obtain hst | hst | hst | hst := barred <;> rw [hans, hst]

end Sys2Proof.Machine

/-! # Proofs: the cost of a sheet (R136)

The cost is its side units times the scale, divided by 128 and rounded up, so each bound on it is a bound on the
units. -/

namespace Sys2Proof.Machine

/-! ## The units of a sheet -/

/-- The units of both sides of a sheet. -/
def sheetUnits (r : Rate) (st : SheetStart) : Nat := sideUnits r st.side1 + sideUnits r st.side2

/-- A side's units are within every bound on the two rates. -/
theorem sideUnits_le {r : Rate} {n : Nat} (hmono : r.mono ≤ n) (hcolour : r.colour ≤ n) (m : SideMode) :
    sideUnits r m ≤ n := by
  cases m with
  | blank => exact n.zero_le
  | mono => exact hmono
  | color => exact hcolour

theorem sheetUnits_le {r : Rate} {n : Nat} (hmono : r.mono ≤ n) (hcolour : r.colour ≤ n) (st : SheetStart) :
    sheetUnits r st ≤ n + n :=
  Nat.add_le_add (sideUnits_le hmono hcolour st.side1) (sideUnits_le hmono hcolour st.side2)

theorem sheetUnits_of_blank {st : SheetStart} (r : Rate) (h1 : st.side1 = .blank) (h2 : st.side2 = .blank) :
    sheetUnits r st = 0 := by
  simp only [sheetUnits, h1, h2, sideUnits]

/-! ## From units to cost -/

theorem sheetCost_eq (r : Rate) (scale : Nat) (st : SheetStart) :
    sheetCost r scale st = (sheetUnits r st * scale + 127) / 128 := rfl

/-- The cost as R136 words it: the quotient, raised by one where the division leaves a remainder. -/
theorem sheetCost_eq_div_add_ite (r : Rate) (scale : Nat) (st : SheetStart) :
    sheetCost r scale st =
      sheetUnits r st * scale / 128 + (if sheetUnits r st * scale % 128 = 0 then 0 else 1) := by
  rw [sheetCost_eq]
  split <;> omega

/-- No product of units and scale up to `n` costs more than `n` does. -/
theorem sheetCost_le {r : Rate} {scale n : Nat} {st : SheetStart} (h : sheetUnits r st * scale ≤ n) :
    sheetCost r scale st ≤ (n + 127) / 128 :=
  Nat.div_le_div_right (Nat.add_le_add_right h 127)

@[simp] theorem sheetCost_zero_scale (r : Rate) (st : SheetStart) : sheetCost r 0 st = 0 := by
  rw [sheetCost_eq, Nat.mul_zero]

/-- A sheet of no units is free at every scale. -/
theorem sheetCost_of_units_eq_zero {r : Rate} {st : SheetStart} (scale : Nat) (h : sheetUnits r st = 0) :
    sheetCost r scale st = 0 := by
  rw [sheetCost_eq, h, Nat.zero_mul]

/-- At scale 128 the cost is the units themselves. -/
theorem sheetCost_scale_128 (r : Rate) (st : SheetStart) : sheetCost r 128 st = sheetUnits r st := by
  rw [sheetCost_eq]
  omega

/-- Rounding up charges at least one unit for a product above 0. -/
theorem sheetCost_pos {r : Rate} {scale : Nat} {st : SheetStart} (h : sheetUnits r st * scale ≠ 0) :
    1 ≤ sheetCost r scale st := by
  rw [sheetCost_eq]
  omega

/-- Settles O49: the model's one rounded division is R136's quotient and remainder, and the bounds on the rates and
the scale bound the units, their product with the scale, and with it the cost. -/
theorem sheetCost_spec : Obligations.SheetCost := by
  intro rate scale st hmono hcolour hscale units
  have units_eq : units = sideUnits rate := by
    funext m
    cases m <;> rfl
  rw [units_eq]
  have units_le : sheetUnits rate st ≤ 8190 := sheetUnits_le hmono hcolour st
  have product_le : sheetUnits rate st * scale ≤ 2088450 := Nat.mul_le_mul units_le hscale
  refine ⟨sheetCost_eq_div_add_ite rate scale st, units_le, product_le, sheetCost_le product_le, ?free,
    fun blank1 blank2 => sheetCost_of_units_eq_zero scale (sheetUnits_of_blank rate blank1 blank2), ?unscaled,
    sheetCost_pos, ?dearest⟩
  case free =>
    rintro rfl
    exact sheetCost_zero_scale rate st
  case unscaled =>
    rintro rfl
    exact sheetCost_scale_128 rate st
  case dearest =>
    intro (dearest : sheetUnits rate st = 8190) top
    rw [sheetCost_eq, dearest, top]

end Sys2Proof.Machine

/-! # Proofs: ALERT ACK (R159)

A request that changes neither jobs nor ports is its body between the frame's departure and the placing of the reply;
ALERT ACK's body is then a choice by the record's state and its count. -/

namespace Sys2Proof.Machine

/-! ## The execution of a request that changes neither jobs nor ports -/

/-- A well-formed request that changes neither jobs nor ports is executed as one event (R32, R172). -/
theorem State.runQuiet_of_asks {s : State} {f : Frame} {payload : List Byte} (h : s.Asks f payload)
    (hform : requestForm payload = true) (body : List Byte → State → Answer) :
    s.runQuiet (requestCode payload) body = .next
      ((body payload.tail s.takeControl).state.placeReply (controlReply f (body payload.tail s.takeControl).code
        (requestCode payload) (body payload.tail s.takeControl).data)).linkClosing := by
  simp only [State.runQuiet, State.requestFront_of_asks h, State.execute_of_asks h hform]

/-- No index is found for a number out of range (R172, test 3). -/
theorem finOf_of_le {n k : Nat} (h : n ≤ k) : finOf n k = none := dif_neg h.not_gt

/-- A request whose port is out of range is answered BAD-INDEX (R172, test 3). -/
theorem onPort_of_le {b : Byte} (hb : 16 ≤ b.toNat) (args : List Byte) (s : State) (body : Port → Answer) :
    onPort (b :: args) s body = answer .badIndex s := by
  simp only [onPort, finOf_of_le hb]

@[simp] theorem State.alert_takeControl (s : State) (p : Port) : s.takeControl.alert p = s.alert p := rfl

/-! ## The record acknowledged -/

theorem AlertRec.acked_of_activeUnacked {r : AlertRec} (h : r.state = .activeUnacked) :
    r.acked = { r with state := .activeAcked, due := false, repeatTimer := none } := by
  simp only [AlertRec.acked, h]

theorem AlertRec.acked_of_clearedUnacked {r : AlertRec} (h : r.state = .clearedUnacked) :
    r.acked = { r with state := .idle, due := false, repeatTimer := none } := by
  simp only [AlertRec.acked, h]

/-! ## ALERT ACK -/

/-- ALERT ACK of a port out of range. -/
theorem doAlertAck_of_le {b : Byte} (hb : 16 ≤ b.toNat) (n : Byte) (s : State) :
    doAlertAck [b, n] s = answer .badIndex s := onPort_of_le hb [] s _

/-- ALERT ACK of a port depends on whether its record is unacked and the count is the record's own. -/
theorem doAlertAck_eq {b : Byte} {p : Port} (hp : b.toNat = p.val) (n : Byte) (s : State) :
    doAlertAck [b, n] s =
      if (s.alert p).state.unacked ∧ n.toNat = (s.alert p).occurrences then
        answer .done (s.modAlert p AlertRec.acked)
      else answer .stale s := onPort_of_val hp [] s _

/-- ALERT ACK is the answer of `doAlertAck` with its reply, as one event. -/
theorem exec_alertAck {s : State} {f : Frame} {b n : Byte} (h : s.Asks f [32, b, n]) :
    exec .alertAck s = .next
      ((doAlertAck [b, n] s.takeControl).state.placeReply (controlReply f (doAlertAck [b, n] s.takeControl).code 32
        (doAlertAck [b, n] s.takeControl).data)).linkClosing :=
  State.runQuiet_of_asks h rfl doAlertAck

/-- ALERT ACK whose body answers a code and changes nothing is refused with that code. -/
theorem refused_alertAck {s : State} {f : Frame} {b n : Byte} {why : ReplyCode} (h : s.Asks f [32, b, n])
    (hans : doAlertAck [b, n] s.takeControl = answer why s.takeControl) : Refused .alertAck 32 s f why := by
  refine ⟨_, rfl, .inl ?_⟩
  rw [exec_alertAck h, hans]
  rfl

/-- ALERT ACK of a record that is acked or IDLE, or with a count not its own, is refused with STALE. -/
theorem refused_alertAck_stale {s : State} {f : Frame} {b n : Byte} {p : Port} (h : s.Asks f [32, b, n])
    (hp : b.toNat = p.val)
    (hno : ¬ ((s.alert p).state.unacked = true ∧ n.toNat = (s.alert p).occurrences)) :
    Refused .alertAck 32 s f .stale :=
  refused_alertAck h (by rw [doAlertAck_eq hp, State.alert_takeControl, if_neg hno])

/-- ALERT ACK of an unacked record with its own count answers DONE, and the link and that record alone change. -/
theorem settles_alertAck {s : State} {f : Frame} {b n : Byte} {p : Port} (h : s.Asks f [32, b, n])
    (hp : b.toNat = p.val) (hunacked : (s.alert p).state.unacked = true)
    (hcount : n.toNat = (s.alert p).occurrences) :
    Settles .alertAck s { s with
      link := s.link.answered (controlReply f .done 32 [])
      alerts := tset s.alerts p (s.alert p).acked } := by
  have hans : doAlertAck [b, n] s.takeControl = answer .done (s.takeControl.modAlert p AlertRec.acked) := by
    rw [doAlertAck_eq hp, State.alert_takeControl, if_pos ⟨hunacked, hcount⟩]
  rw [Settles, exec_alertAck h, hans]
  rfl

/-- Settles O39: the record's state and its count choose the answer, and an acknowledged record is the one `acked`
gives for its state. -/
theorem alertAcknowledged : Obligations.AlertAcknowledged := by
  intro s f b n h
  refine ⟨fun p hp => ⟨fun active count => ?_, fun cleared count => ?_, fun other => ?_, fun settled => ?_⟩,
    fun out => refused_alertAck h (doAlertAck_of_le out n s.takeControl)⟩
  · rw [← AlertRec.acked_of_activeUnacked active]
    exact settles_alertAck h hp (by rw [active]; rfl) count
  · rw [← AlertRec.acked_of_clearedUnacked cleared]
    exact settles_alertAck h hp (by rw [cleared]; rfl) count
  · exact refused_alertAck_stale h hp fun own => other own.2
  · have acked : (s.alert p).state.unacked = false := by
      obtain hst | hst := settled <;> rw [hst] <;> rfl
    exact refused_alertAck_stale h hp fun own => Bool.false_ne_true (acked.symm.trans own.1)

end Sys2Proof.Machine
